-- ==== Sys2Proof/Word.lean ====
section
/-! DEFINITION. The plain value types of the Caspel 2416: wire fields, card word addresses, positions. -/

namespace Sys2Proof

/-- One byte of a frame (spec/12, R173). -/
abbrev Byte := BitVec 8

/-- A 16-bit field of a frame: a card word's value, a minute, a rate (spec/12, R174 to R176). -/
abbrev Word := BitVec 16

/-- The address of a card word, 0 to 15: the low four bits of its byte (R173, R175). -/
abbrev WordAddr := BitVec 4

/-- The six bytes of a table word, the first byte in the top eight bits (R174, R176). -/
abbrev TableBytes := BitVec 48

/-- The five bytes of a position slot, the first byte in the top eight bits (R175). -/
abbrev SlotBytes := BitVec 40

/-- The ten bytes of a header or a trailer, the first byte in the top eight bits (R174). -/
abbrev TenBytes := BitVec 80

/-- A booth, its reader and its highway slot share one number, 0 to 23 (spec/00, 0.3). -/
abbrev Position := Fin 24

/-- A charge band, 0 to 15 (spec/00, 0.3). -/
abbrev Band := Fin 16

/-- A tariff period, 0 to 3 (spec/00, 0.3). -/
abbrev Period := Fin 4

/-- Every position, lowest first. -/
def positions : List Position :=
  [0, 1, 2, 3, 4, 5, 6, 7, 8, 9, 10, 11, 12, 13, 14, 15, 16, 17, 18, 19, 20, 21, 22, 23]

end Sys2Proof
end

