-- ==== Sys2Proof/Syntax.lean ====
section
/-! DEFINITION. The commands of the Caspel 2416: one constructor for each row of spec/opcode_table.json, with the row's operands. -/

namespace Sys2Proof

/-- What the line interfaces put on the eight rows in a sense segment, row r in bit r: which rows an interface drives, and
the level that it presents there, high or low (R128, R130). -/
structure RowInputs where
  driven : Byte
  level : Byte
  deriving DecidableEq, Repr

/-- A command: an event at one of the part's sides, or one of the part's own timed steps.
The part's rows carry no bits in the table, so the operands are the fields the rules name. -/
inductive Instr where
  /-- Supply rises through the power-on threshold (R179). -/
  | powerOnReset
  /-- The reset line is held low for `periods` reference clock periods with supply present (R23, R179). -/
  | warmReset (periods : Nat)
  /-- The frame sync becomes active (R87, R92). `cut` is the count of byte times since the start of the frame
  still in progress, if there is one; the cut's outcome depends on it (R93). -/
  | frameStart (cut : Nat)
  /-- The ten header bytes have been received whole (R92, R96, R174). -/
  | headerArrival (frame : Byte) (minute : Word) (flags : Byte) (table : TableBytes)
  /-- The RESTART flag of a header acts (R161). -/
  | restart
  /-- A TARIFF table word is taken, fields as carried (R154, R156). -/
  | tariff (band period charge : Byte) (rate : Word)
  /-- A SCHEDULE table word is taken, fields as carried (R157). -/
  | schedule (slot : Byte) (minute : Word) (period : Byte)
  /-- A SETTING table word is taken, fields as carried (R158). -/
  | setting (number : Byte) (value : Word)
  /-- A POSITION table word is taken, fields as carried (R159). -/
  | position (number mode : Byte)
  /-- Request arrival at `p`: NULL (R106). -/
  | null (p : Position)
  /-- Request arrival at `p`: READ word `a` (R106). `rest` is the value and the complement as received: they are
  ignored, and re-emitted (R85, R175). -/
  | read (p : Position) (a : WordAddr) (rest : BitVec 32)
  /-- Request arrival at `p`: WRITE word `a`, value `v` (R107 to R109), with its ignored complement `c` (R175). -/
  | write (p : Position) (a : WordAddr) (v c : Word)
  /-- Request arrival at `p`: PROTECTED WRITE word `a`, value `v`, complement `c` (R110). -/
  | protectedWrite (p : Position) (a : WordAddr) (v c : Word)
  /-- Request arrival at `p`: LOCKED READ word `a` (R115), `rest` as for `read`. -/
  | lockedRead (p : Position) (a : WordAddr) (rest : BitVec 32)
  /-- Request arrival at `p`: UNLOCK (R116). -/
  | unlock (p : Position)
  /-- Request arrival at `p` with a kind code outside the six (R113). -/
  | unknownKind (p : Position) (code : BitVec 4)
  /-- Reply arrival at `p`: ABSENT (R2, R9, R120). `rest` is all that follows the four bits that every reply sends as 0:
  it is not used, and re-emitted as received (R85, R175). -/
  | absent (p : Position) (rest : BitVec 28)
  /-- Reply arrival at `p`: READY, `rest` as for `absent`. -/
  | ready (p : Position) (rest : BitVec 28)
  /-- Reply arrival at `p`: DATA for word `a` with content `v`; `last` is the last byte, re-emitted as received (R175). -/
  | data (p : Position) (a : WordAddr) (v : Word) (last : Byte)
  /-- Reply arrival at `p`: ACCEPTED for word `a`; `rest` is the value and the last byte as received. -/
  | accepted (p : Position) (a : WordAddr) (rest : BitVec 24)
  /-- Reply arrival at `p`: BUSY, `rest` as for `absent`. -/
  | busy (p : Position) (rest : BitVec 28)
  /-- Reply arrival at `p`: WRITTEN for word `a`, value now stored `v`, `last` as for `data`. -/
  | written (p : Position) (a : WordAddr) (v : Word) (last : Byte)
  /-- Reply arrival at `p`: ERROR, `rest` as for `absent`. -/
  | error (p : Position) (rest : BitVec 28)
  /-- Reply arrival at `p` with a status code that is none of the seven reader statuses; the five bytes as
  received, because they are re-emitted so (R98). -/
  | unknownStatus (p : Position) (bytes : SlotBytes)
  /-- The readers' trailer time has passed (R92). `trailer` is the frame's downstream trailer, which has passed
  unread (R90, R174). -/
  | frameEnd (trailer : TenBytes)
  /-- The lock of `p` is lowered to 0 at a frame end (R117). -/
  | lockExpired (p : Position)
  /-- The in-flight record of `p` reaches 16 frames since ACCEPTED (R149). -/
  | writeTimeout (p : Position)
  /-- The upstream trailer is emitted as far as its first `sent` bytes, ten for a whole trailer (R103). Several of these
  in one frame give the moments at which its fields are taken. -/
  | trailerRecord (sent : Nat)
  /-- The frame timer expires (R142). `cut` as for `frameStart`: entry to LOST cuts a frame in progress (R93). -/
  | frameTimeout (cut : Nat)
  /-- The loss timer reaches 2 s (R146). -/
  | longLost
  /-- A charge tick (R24, R36). -/
  | chargeTick
  /-- The grace countdown of `p` reaches 0 on a tick (R13). -/
  | graceExpired (p : Position)
  /-- The ASSERT count of `p` reaches 0 on a tick (R16). -/
  | clearDownAssertEnd (p : Position)
  /-- The GAP count of `p` reaches 0 on a tick (R16). -/
  | clearDownGapEnd (p : Position)
  /-- A flash step (R25, R137). -/
  | flashStep
  /-- An age step (R25, R78). -/
  | ageStep
  /-- The age of the entry for `serial` reaches the arrears retention at an age step (R79). -/
  | arrearsExpiry (serial : BitVec 32)
  /-- A scan step begins (R129). -/
  | scanStepStart
  /-- The end of a sense segment, with what the line interfaces put on the rows (R130). -/
  | senseSample (rows : RowInputs)
  /-- The start of a drive segment (R131). -/
  | driveSegment
  /-- The rising edge of the reset line, with the level of the sync polarity strap: true is high (R87, R179). -/
  | resetRelease (strap : Bool)
  deriving DecidableEq, Repr

end Sys2Proof
end

