-- ==== Sys2Proof/WellFormed.lean ====
section
/-! DEFINITION. Which commands are terms the highway can carry: the checks the operand types do not already make. -/

namespace Sys2Proof

/-- A kind code outside the six request kinds of R97 is 6h to Fh (R175). -/
def kindCodeUnknown (code : BitVec 4) : Bool := 6 ≤ code.toNat

/-- The status byte of an upstream slot: its first byte (R175). -/
def statusByte (bytes : SlotBytes) : Byte := bytes.extractLsb' 32 8

/-- A status code that is none of the seven reader statuses 10h to 16h (R98, R175). -/
def statusUnknown (code : Byte) : Bool := decide (code.toNat < 0x10) || decide (0x16 < code.toNat)

/-- A trailer has ten bytes (R91, R103). -/
def trailerBytesInRange (sent : Nat) : Bool := sent ≤ 10

/-- A frame that is cut has not reached its frame end, 152 byte times after its start (R92, R93). -/
def cutInFrame (cut : Nat) : Bool := cut < 152

/-- The command is one that its row can stand for. The meanings are total and do not rest on this. -/
def Instr.wellFormed : Instr → Bool
  | .unknownKind _ code => kindCodeUnknown code
  | .unknownStatus _ bytes => statusUnknown (statusByte bytes)
  | .trailerRecord sent => trailerBytesInRange sent
  | .frameStart cut => cutInFrame cut
  | .frameTimeout cut => cutInFrame cut
  | .powerOnReset | .warmReset _ | .headerArrival .. | .restart | .tariff .. | .schedule .. | .setting ..
  | .position .. | .null _ | .read .. | .write .. | .protectedWrite .. | .lockedRead .. | .unlock _ | .absent ..
  | .ready .. | .data .. | .accepted .. | .busy .. | .written .. | .error .. | .frameEnd _ | .lockExpired _
  | .writeTimeout _ | .longLost | .chargeTick | .graceExpired _ | .clearDownAssertEnd _ | .clearDownGapEnd _
  | .flashStep | .ageStep | .arrearsExpiry _ | .scanStepStart | .senseSample _ | .driveSegment
  | .resetRelease _ => true

end Sys2Proof
end

