-- ==== Sys2Proof/Decode.lean ====
section
/-! DEFINITION. What a word spells: the opcode table's bits (none), and the bytes of the highway (R174 to R176) with their encoder. -/

namespace Sys2Proof

/-- The command an opcode-table word spells. spec/opcode_table.json gives no row any bits, so no word spells one. -/
def decodeTableWord (_nbits _w : Nat) : Option Instr := none

/-! ## The table word (R176) -/

/-- Byte `i` of a table word, byte 0 first on the wire (R173, R176). -/
def tableByte (t : TableBytes) (i : Nat) : Byte := t.extractLsb' (8 * (5 - i)) 8

/-- Bytes `i` and `i + 1` of a table word as one field, most significant byte first (R173, R176). -/
def tablePair (t : TableBytes) (i : Nat) : Word := t.extractLsb' (8 * (4 - i)) 16

/-- The command a table word spells (R154, R176): none for a kind code that is none of the four. -/
def decodeTable (t : TableBytes) : Option Instr :=
  let kind := tableByte t 0
  if kind = 1 then some (.tariff (tableByte t 1) (tableByte t 2) (tableByte t 3) (tablePair t 4))
  else if kind = 2 then some (.schedule (tableByte t 1) (tablePair t 2) (tableByte t 4))
  else if kind = 3 then some (.setting (tableByte t 1) (tablePair t 2))
  else if kind = 4 then some (.position (tableByte t 1) (tableByte t 2))
  else none

/-- The table word of a command, bytes that are not read sent as 0 (R176). -/
def encodeTable : Instr → Option TableBytes
  | .tariff band period charge rate => some ((1 : Byte) ++ band ++ period ++ charge ++ rate)
  | .schedule slot minute period => some ((2 : Byte) ++ slot ++ minute ++ period ++ (0 : Byte))
  | .setting number value => some ((3 : Byte) ++ number ++ value ++ (0 : Word))
  | .position number mode => some ((4 : Byte) ++ number ++ mode ++ (0 : Byte) ++ (0 : Word))
  | _ => none

/-! ## The downstream slot (R175) -/

/-- The request command that a downstream slot's five bytes spell at a position (R97, R175): kind in the high four
bits of the first byte, word address in its low four, then value and complement. -/
def decodeRequest (p : Position) (b : SlotBytes) : Instr :=
  let kind : BitVec 4 := b.extractLsb' 36 4
  let a : WordAddr := b.extractLsb' 32 4
  let rest : BitVec 32 := b.extractLsb' 0 32
  let v : Word := b.extractLsb' 16 16
  let c : Word := b.extractLsb' 0 16
  if kind = 0 then .null p
  else if kind = 1 then .read p a rest
  else if kind = 2 then .write p a v c
  else if kind = 3 then .protectedWrite p a v c
  else if kind = 4 then .lockedRead p a rest
  else if kind = 5 then .unlock p
  else .unknownKind p kind

/-- A downstream slot from its kind, its word address and its last four bytes, value and complement (R175). -/
def requestBytes (kind : BitVec 4) (a : WordAddr) (rest : BitVec 32) : SlotBytes := kind ++ a ++ rest

/-- The downstream slot of a request command (R175). The fields that no command carries, those that NULL, UNLOCK and an
unknown kind do not use, stand at 0. -/
def encodeRequest : Instr → Option (Position × SlotBytes)
  | .null p => some (p, requestBytes 0 0 0)
  | .read p a rest => some (p, requestBytes 1 a rest)
  | .write p a v c => some (p, requestBytes 2 a (v ++ c))
  | .protectedWrite p a v c => some (p, requestBytes 3 a (v ++ c))
  | .lockedRead p a rest => some (p, requestBytes 4 a rest)
  | .unlock p => some (p, requestBytes 5 0 0)
  | .unknownKind p code => some (p, requestBytes code 0 0)
  | _ => none

/-! ## The upstream slot (R175) -/

/-- The reply command that an upstream slot's five bytes spell at a position (R98, R175): status, word address in the low
four bits of the second byte, value, last byte. The high four bits of the second byte are ignored. -/
def decodeReply (p : Position) (b : SlotBytes) : Instr :=
  let status := statusByte b
  let rest : BitVec 28 := b.extractLsb' 0 28
  let a : WordAddr := b.extractLsb' 24 4
  let v : Word := b.extractLsb' 8 16
  let last : Byte := b.extractLsb' 0 8
  if status = 0x10 then .absent p rest
  else if status = 0x11 then .ready p rest
  else if status = 0x12 then .data p a v last
  else if status = 0x13 then .accepted p a (b.extractLsb' 0 24)
  else if status = 0x14 then .busy p rest
  else if status = 0x15 then .written p a v last
  else if status = 0x16 then .error p rest
  else .unknownStatus p b

/-- An upstream slot from its status and what follows the four bits sent as 0: word address, value, last byte (R175). -/
def replyBytes (status : Byte) (rest : BitVec 28) : SlotBytes := status ++ (0 : BitVec 4) ++ rest

/-- The upstream slot of a reply command (R175), which is also what a passed reply is re-emitted as (R85, R173). -/
def encodeReply : Instr → Option (Position × SlotBytes)
  | .absent p rest => some (p, replyBytes 0x10 rest)
  | .ready p rest => some (p, replyBytes 0x11 rest)
  | .data p a v last => some (p, replyBytes 0x12 (a ++ v ++ last))
  | .accepted p a rest => some (p, replyBytes 0x13 (a ++ rest))
  | .busy p rest => some (p, replyBytes 0x14 rest)
  | .written p a v last => some (p, replyBytes 0x15 (a ++ v ++ last))
  | .error p rest => some (p, replyBytes 0x16 rest)
  | .unknownStatus p b => some (p, b)
  | _ => none

/-! ## The downstream header (R174) -/

/-- A downstream header from its fields (R174). -/
def headerBytes (frame : Byte) (minute : Word) (flags : Byte) (table : TableBytes) : TenBytes :=
  frame ++ minute ++ flags ++ table

/-- The command ten header bytes spell (R96, R174). -/
def decodeHeader (b : TenBytes) : Instr :=
  .headerArrival (b.extractLsb' 72 8) (b.extractLsb' 56 16) (b.extractLsb' 48 8) (b.extractLsb' 0 48)

/-- The header of a header arrival (R174). -/
def encodeHeader : Instr → Option TenBytes
  | .headerArrival frame minute flags table => some (headerBytes frame minute flags table)
  | _ => none

end Sys2Proof
end

