-- ==== Sys2Proof/Config.lean ====
section
/-! DEFINITION. The fixed quantities of the part (spec/00, 0.3) and the free values: what the spec leaves open and no proof may see. -/

namespace Sys2Proof.Config

/-- Units in one number of the account: W, call units, a report's units (R1, R164). -/
abbrev unitsMax : Nat := 65535
/-- Quanta in one unit (spec/00, 0.3). -/
abbrev quantaPerUnit : Nat := 1024
/-- Entries the Arrears List holds at most (R68). -/
abbrev arrearsCapacity : Nat := 32
/-- Records the Report Queue holds at most (R166). -/
abbrev queueCapacity : Nat := 32
/-- The lost count stays here (R168). -/
abbrev lostMax : Nat := 255
/-- Reference clock periods in a charge tick (R24). -/
abbrev tickPeriods : Nat := 204800
/-- The tick count wraps here (R25). -/
abbrev ticksPerAgeStep : Nat := 600
/-- Ticks in a flash step (R25, R137). -/
abbrev ticksPerFlashStep : Nat := 5
/-- Reference clock periods of the frame timeout, 12 ms (R141). -/
abbrev frameTimeoutPeriods : Nat := 24576
/-- Reference clock periods from LOST to LONG LOST, 2 s (R141). -/
abbrev longLossPeriods : Nat := 4096000
/-- Ticks of the GAP phase (R16). -/
abbrev gapTicks : Nat := 50
/-- Complete frames after ACCEPTED that make a write timeout (R125, R149). -/
abbrev writeTimeoutFrames : Nat := 16
/-- ERROR replies on one held own request that declare a reader fault (R54). -/
abbrev ownTries : Nat := 3
/-- Ticks in a second of grace time (R12). -/
abbrev ticksPerSecond : Nat := 10
/-- Reference clock periods of half a step, for each count of the scan step setting (R129). -/
abbrev segmentPeriods : Nat := 128
/-- A minute field at or above this is no minute of day (R26, R30). -/
abbrev minutesPerDay : Nat := 1440
/-- A low pulse on the reset line shorter than this is not taken (R179). -/
abbrev resetPulseNever : Nat := 3
/-- A low pulse on the reset line of at least this length is a warm reset (R179). -/
abbrev resetPulseAlways : Nat := 8
/-- Reference clock periods that a power-on reset lasts at least (R179). -/
abbrev powerUpPeriods : Nat := 4096
/-- Bytes of the report record at the front of an upstream trailer (R103, R174). -/
abbrev recordLength : Nat := 8
/-- Bytes of an upstream trailer (R103). -/
abbrev trailerLength : Nat := 10

/-- Free value (R179): whether a reset pulse of 3 to 7 periods is taken. Log entry 4. -/
opaque shortPulseTaken : Nat → Bool
/-- Free value (log entry 2): which rows a line interface drives at a sense segment's end that no command gives. -/
opaque rowsDriven : Nat → BitVec 8
/-- Free value (log entry 2): the levels presented on those rows. -/
opaque lineLevels : Nat → BitVec 8
/-- Free value (log entry 3): which of several things due in one reference clock period comes first. -/
opaque dueOrder : Nat → Nat

/-- Free value (log entry 22): the level of the sync polarity strap at a release that the clock brings and no command. -/
opaque strapLevel : Nat → Bool

end Sys2Proof.Config
end

