-- ==== Sys2Proof/Machine/State.lean ====
section
/-! DEFINITION. Everything the spec gives the part to hold, as plain data, and the state right after a power-on reset is released. -/

namespace Sys2Proof.Machine

/-! ## Booth contexts (spec/01) -/

/-- The two modes of a booth (1.2). -/
inductive Mode where
  | charged | free
  deriving DecidableEq, Repr

/-- The seven states of a booth (1.3). -/
inductive BoothState where
  | vacant | card | call | grace | clearing | opened | fault
  deriving DecidableEq, Repr

/-- Whether a card is in the reader, as last learned from a reply (R1). -/
inductive Presence where
  | yes | no | unknown
  deriving DecidableEq, Repr

/-- Prior balance, new balance and covered units of a write whose outcome is not known: a pending resolution
(R62) or an uncertain pair (R59, R67). -/
structure Pair where
  prior : Nat
  new : Nat
  k : Nat
  deriving DecidableEq, Repr

/-- The phase of the clear-down cycle with its remaining ticks (R16). -/
inductive ClearDown where
  | assert (ticks : Nat)
  | gap (ticks : Nat)
  deriving DecidableEq, Repr

/-- The resumed field (R1, R20). -/
inductive Resumed where
  | no | waiting
  deriving DecidableEq, Repr

/-- A booth context (R1). The serial is not stored: it is computed from the two halves. `firstLoop` and
`firstAnswer` are the first values the resume check has received (R20). -/
structure Booth where
  mode : Mode
  pendingMode : Option Mode
  state : BoothState
  present : Presence
  serialHigh : Option Nat
  serialLow : Option Nat
  expected : Option Nat
  lastSerial : Option Nat
  known : Option Nat
  band : Option Band
  bandAtAnswer : Band
  callUp : Bool
  rate : Option Nat
  fraction : Nat
  owed : Nat
  callUnits : Nat
  pendingRes : Option Pair
  grace : Nat
  timer : Option ClearDown
  resumed : Resumed
  firstLoop : Option Bool
  firstAnswer : Option Bool
  deriving DecidableEq, Repr

/-- A booth context at power-on reset (R23). -/
def Booth.powerOn : Booth :=
  { mode := .charged, pendingMode := none, state := .vacant, present := .unknown, serialHigh := none,
    serialLow := none, expected := none, lastSerial := none, known := none, band := none, bandAtAnswer := 0,
    callUp := false, rate := none, fraction := 0, owed := 0, callUnits := 0, pendingRes := none, grace := 0,
    timer := none, resumed := .waiting, firstLoop := none, firstAnswer := none }

/-- The lamp states (R22). -/
inductive Lamp where
  | off | steady | flash
  deriving DecidableEq, Repr

/-! ## Interception contexts (spec/06) -/

/-- Who sent a request: the row controller or the part (R104, R105). -/
inductive Origin where
  | row | own
  deriving DecidableEq, Repr

/-- The in-flight record (R104). -/
structure InFlight where
  origin : Origin
  word : WordAddr
  value : Nat
  prior : Option Nat
  k : Nat
  frames : Nat
  deriving DecidableEq, Repr

/-- The own requests the Debit Unit makes (R48): READ of word 0, 1 or 4, WRITE of word 4. -/
inductive OwnRequest where
  | read (a : WordAddr)
  | write (v : Nat)
  deriving DecidableEq, Repr

/-- A held own request and its tries used (R53, R104). -/
structure Held where
  request : OwnRequest
  tries : Nat
  deriving DecidableEq, Repr

/-- What a reader receives in a slot (R97). -/
inductive ReaderRequest where
  | null
  | read (a : WordAddr)
  | write (a : WordAddr) (v : Nat)
  deriving DecidableEq, Repr

/-- Why a request is killed (R112). -/
inductive RefuseCause where
  | issuer | free | unknown | raise | excess | complement | engaged | kind
  deriving DecidableEq, Repr

/-- The treatment of a slot (R105). `inserted first` says whether this slot is the first sending of the request:
a first sending that is cut before it is emitted whole is not held (R93, R119). -/
inductive Treatment where
  | passed
  | converted
  | suppressed
  | killed (cause : RefuseCause) (attempted : Nat)
  | inserted (first : Bool)
  deriving DecidableEq, Repr

/-- The slot record (R105). -/
structure SlotRecord where
  origin : Origin
  sent : ReaderRequest
  treatment : Treatment
  deriving DecidableEq, Repr

/-- The interception context of a position (R104). -/
structure Intercept where
  inFlight : Option InFlight
  lock : Nat
  held : Option Held
  record : Option SlotRecord
  deriving DecidableEq, Repr

/-- An interception context at power-on reset (R104). -/
def Intercept.powerOn : Intercept := { inFlight := none, lock := 0, held := none, record := none }

/-! ## Replies (spec/05, 5.5) -/

/-- What the part reads from a reader's reply. `unknown` is a status that is none of the seven (R98). -/
inductive Reply where
  | absent
  | ready
  | data (a : WordAddr) (v : Word)
  | accepted (a : WordAddr)
  | busy
  | written (a : WordAddr) (v : Word)
  | error
  | unknown
  deriving DecidableEq, Repr

/-- What the row controller is sent in an upstream slot: the reply's bytes unchanged, or the part's own reply (R85, R98,
R121 to R123). -/
inductive UpReply where
  | passed (bytes : SlotBytes)
  | refused (cause : RefuseCause) (attempted : Nat)
  | held
  | debited (v : Nat)
  deriving DecidableEq, Repr

/-! ## The Arrears List (spec/04) -/

/-- An arrears entry (R67). -/
structure ArrearsEntry where
  serial : Nat
  owed : Nat
  pair : Option Pair
  age : Nat
  origin : Position
  deriving DecidableEq, Repr

/-! ## Tables (spec/02, spec/09) -/

/-- A SET tariff entry: answer charge and rate (R28). -/
structure TariffEntry where
  charge : Nat
  rate : Nat
  deriving DecidableEq, Repr

/-- A set schedule slot (R30). -/
structure SwitchPoint where
  minute : Nat
  period : Period
  deriving DecidableEq, Repr

/-- The insertion parity setting (R47). -/
inductive Parity where
  | any | even | odd
  deriving DecidableEq, Repr

/-- The twelve settings (R158). -/
structure Settings where
  insertionThreshold : Nat
  rowAllowance : Nat
  lowCredit : Nat
  graceTime : Nat
  lockLimit : Nat
  retention : Nat
  parity : Parity
  debounceCount : Nat
  scanStep : Nat
  clearDownHold : Nat
  alertThreshold : Nat
  unknownBand : Band
  deriving DecidableEq, Repr

/-- The defaults of R158. -/
def Settings.defaults : Settings :=
  { insertionThreshold := 2, rowAllowance := 0, lowCredit := 5, graceTime := 15, lockLimit := 8, retention := 30,
    parity := .any, debounceCount := 3, scanStep := 8, clearDownHold := 5, alertThreshold := 8, unknownBand := 15 }

/-! ## The Line Scanner (spec/07) -/

/-- A debounce record (R132). `level` none is unknown; true is high. -/
structure Debounce where
  level : Option Bool
  runLevel : Bool
  runCount : Nat
  deriving DecidableEq, Repr

/-- A debounce record at a reset (R139). -/
def Debounce.reset : Debounce := { level := none, runLevel := false, runCount := 0 }

/-- Where the scanner stands: not scanning (a reset is asserted), in a sense segment, or in a drive segment
with the eight row levels fixed at its start, row r in bit r (R129 to R131, R139). -/
inductive Segment where
  | off
  | sense
  | drive (rows : Byte)
  deriving DecidableEq, Repr

/-- The Line Scanner. `column` is the step position; `sampled` says that the step's sample has been taken, which ends
its sense segment, so that in a sense segment the drive segment comes next (R130);
`stepSetting` is the scan step setting read at the start of the step; `elapsed` counts reference clock periods
of the segment (R129, R140). -/
structure Scanner where
  column : Fin 6
  segment : Segment
  sampled : Bool
  stepSetting : Nat
  elapsed : Nat
  loop : Vector Debounce 24
  answer : Vector Debounce 24
  flash : Bool
  deriving DecidableEq, Repr

/-- The scanner while a reset is asserted (R139). -/
def Scanner.reset : Scanner :=
  { column := 0, segment := .off, sampled := false, stepSetting := 0, elapsed := 0,
    loop := Vector.replicate 24 Debounce.reset, answer := Vector.replicate 24 Debounce.reset, flash := true }

/-! ## Reports (spec/10) -/

/-- Why units are dropped without a serial's entry (10.2). -/
inductive DropCause where
  | noSerial | saturated | unresolved
  deriving DecidableEq, Repr

/-- Why an arrears entry is dropped (10.2). -/
inductive EntryDropCause where
  | evicted | expired
  deriving DecidableEq, Repr

/-- Why a call is cleared down (R15). -/
inductive ClearCause where
  | tariffUnset | graceExpired | saturated | highwayLost | readerFault
  deriving DecidableEq, Repr

/-- The twelve report kinds, each with its cause where it has one (R164, 10.2). -/
inductive ReportKind where
  | callEnd
  | refusedWrite (cause : RefuseCause)
  | arrearsOpened
  | arrearsCollected
  | arrearsDropped (cause : EntryDropCause)
  | unitsDropped (cause : DropCause)
  | clearDown (cause : ClearCause)
  | readerFault
  | lockExpired
  | highwayLost
  | highwayRestored
  | warmRestart
  deriving DecidableEq, Repr

/-- A report record (R164); the cause stands in the kind. -/
structure Report where
  kind : ReportKind
  position : Option Position
  serial : Option Nat
  units : Nat
  aux : Nat
  deriving DecidableEq, Repr

/-! ## Highway Port and Highway Supervisor (spec/05, spec/08) -/

/-- The Highway Port (R89): frame in progress, frame number last seen, and the byte times of the frame known to
have passed. `trailerDue` says that the frame taken last has not sent all of its upstream trailer. `trailerRecord` is
the record that its record field carries, once begun (none inside is EMPTY), and `recordHeld` says that this record
still stands in the queue (R103). The other fields are what the part has emitted in that frame: the active level of the
frame sync, the header, the slots and the trailer towards the readers; the echoed frame number, the slots and the
trailer bytes towards the row controller. -/
structure Port where
  inProgress : Bool
  frameNumber : Option Byte
  byteTime : Nat
  trailerDue : Bool
  trailerRecord : Option (Option Report)
  recordHeld : Bool
  downSync : Option Bool
  downHeader : Option TenBytes
  downSlots : Vector (Option SlotBytes) 24
  downTrailer : Option TenBytes
  upHeader : Option Byte
  upSlots : Vector (Option UpReply) 24
  upTrailer : List Byte
  deriving DecidableEq, Repr

/-- The port at a reset (R89): every output at idle fill. -/
def Port.reset : Port :=
  { inProgress := false, frameNumber := none, byteTime := 0, trailerDue := false, trailerRecord := none,
    recordHeld := false, downSync := none, downHeader := none, downSlots := Vector.replicate 24 none,
    downTrailer := none, upHeader := none, upSlots := Vector.replicate 24 none, upTrailer := [] }

/-- The highway states (R141). -/
inductive HighwayState where
  | waiting | running | lost | longLost
  deriving DecidableEq, Repr

/-- The Highway Supervisor (R141). A timer that is none is stopped. -/
structure Supervisor where
  highway : HighwayState
  frameTimer : Option Nat
  lossTimer : Option Nat
  lossDuration : Nat
  deriving DecidableEq, Repr

/-- The supervisor at a reset (R141). -/
def Supervisor.reset : Supervisor := { highway := .waiting, frameTimer := none, lossTimer := none, lossDuration := 0 }

/-! ## The whole machine -/

/-- The account of R66 since power-on: units accrued, units debited, units dropped. -/
structure Ledger where
  accrued : Nat
  debited : Nat
  dropped : Nat
  deriving DecidableEq, Repr

/-- The machine. `pending` is the queue of commands, first in first out. `divider` counts reference clock periods
of the tick (R24). `arrears` and `reports` are oldest first. While a reset is asserted, `powerUp` counts the reference
clock periods since supply rose through its threshold, none in a warm reset, and `lineLow` says that the reset line is
low (R179). `strap` is the sync polarity strap as last sampled (R87), none when it has not been sampled since supply
came up (R179). `draws` counts the free values read. -/
structure State where
  pending : List Instr
  booths : Vector Booth 24
  slots : Vector Intercept 24
  arrears : List ArrearsEntry
  tariff : Vector (Vector (Option TariffEntry) 4) 16
  schedule : Vector (Option SwitchPoint) 8
  settings : Settings
  minute : Option Nat
  divider : Nat
  tickCount : Nat
  port : Port
  sup : Supervisor
  scan : Scanner
  reports : List Report
  lost : Nat
  resetAsserted : Bool
  powerUp : Option Nat
  lineLow : Bool
  strap : Option Bool
  ledger : Ledger
  draws : Nat
  deriving DecidableEq, Repr

/-- The machine at the start of a power-on reset with the reset line high: every field at its power-on value (R23, R24,
R27, R28, R30, R69, R89, R104, R139, R141, R163, R172, R179). -/
def State.powerOn : State :=
  { pending := [], booths := Vector.replicate 24 Booth.powerOn, slots := Vector.replicate 24 Intercept.powerOn,
    arrears := [], tariff := Vector.replicate 16 (Vector.replicate 4 none), schedule := Vector.replicate 8 none,
    settings := Settings.defaults, minute := none, divider := 0, tickCount := 0, port := Port.reset,
    sup := Supervisor.reset, scan := Scanner.reset, reports := [], lost := 0, resetAsserted := true,
    powerUp := some 0, lineLow := false, strap := none, ledger := { accrued := 0, debited := 0, dropped := 0 },
    draws := 0 }

/-- The machine right after the release of a power-on reset: as `powerOn`, with the first scan step begun at column
0 under the default scan step setting (R139) and the strap sampled high (DESIGN CHOICE, log entry 5). -/
def State.reset : State :=
  { State.powerOn with
    resetAsserted := false, powerUp := none, strap := some true,
    scan := { Scanner.reset with segment := .sense, stepSetting := 8 } }

/-- Why a step stops for good. -/
inductive Fault where
  /-- Raised by no meaning: the spec describes no event that stops the part. Safe. -/
  | neverRaised
  deriving DecidableEq, Repr

/-- Why a command has no next state. -/
inductive Refusal where
  /-- Raised by an arm of `exec` whose command has no meaning yet; no arm of this model raises it. Safe. -/
  | notModelled (mnemonic : String)
  deriving DecidableEq, Repr

end Sys2Proof.Machine
end

