-- ==== Sys2Proof/Machine/Flags.lean ====
section
/-! DEFINITION. What is computed from the state and not stored: serial, available credit, lamp, drive map, alert line, current period, tariff lookup, eligibility and the order of needs. -/

namespace Sys2Proof.Machine

/-! ## Reading the tables of contexts -/

/-- The booth context of a position. -/
def State.booth (s : State) (p : Position) : Booth := s.booths[p]

/-- The interception context of a position. -/
def State.slot (s : State) (p : Position) : Intercept := s.slots[p]

/-! ## The card -/

/-- The serial: high half × 65,536 + low half, present when both halves are known (R1). -/
def Booth.serial (b : Booth) : Option Nat :=
  match b.serialHigh, b.serialLow with
  | some h, some l => some (h * 65536 + l)
  | _, _ => none

/-- The debt serial of a removal (R9): the serial, else the expected serial, else the last serial if a call is up. -/
def Booth.debtSerial (b : Booth) : Option Nat :=
  match b.serial with
  | some n => some n
  | none =>
    match b.expected with
    | some n => some n
    | none => if b.callUp then b.lastSerial else none

/-- The booth holds `serial` as the identified serial of a present card (R71, R72). -/
def Booth.holds (b : Booth) (serial : Nat) : Bool := b.present = .yes ∧ b.serial = some serial

/-- The lowest position whose booth holds the serial (R71). -/
def State.holder (s : State) (serial : Nat) : Option Position := positions.find? fun p => (s.booth p).holds serial

/-! ## Covered units -/

/-- The covered units of the in-flight record, 0 without one (R3). -/
def Intercept.k (c : Intercept) : Nat := match c.inFlight with | some r => r.k | none => 0

/-- The covered units of a pair, 0 without one. -/
def pairK (pair : Option Pair) : Nat := match pair with | some q => q.k | none => 0

/-- The uncertain pair of an in-flight record: its prior, new and k when k is above 0 (R59). -/
def InFlight.pair (r : InFlight) : Option Pair :=
  if 0 < r.k then some { prior := r.prior.getD 0, new := r.value, k := r.k } else none

/-- The one pair that leaves a booth with its units: the in-flight record's, else the pending resolution (R9, R59). -/
def outPair (c : Intercept) (b : Booth) : Option Pair :=
  match c.inFlight with
  | some r => match r.pair with
    | some q => some q
    | none => b.pendingRes
  | none => b.pendingRes

/-- The extra units of the resolution formula: min(k, max(0, b − new)) (R60, R62, R63). -/
def Pair.extra (q : Pair) (balance : Nat) : Nat := min q.k (balance - q.new)

/-- Units an entry stands for: owed units plus its pair's k (R67). -/
def ArrearsEntry.units (e : ArrearsEntry) : Nat := e.owed + pairK e.pair

/-! ## Available credit, the lamp and the drive map -/

/-- Available credit (R3): undefined while the known balance is absent, and possibly negative. -/
def credit (b : Booth) (c : Intercept) : Option Int :=
  b.known.map fun n => (n : Int) - b.owed - c.k - pairK b.pendingRes

/-- Available credit of a position. -/
def State.credit (s : State) (p : Position) : Option Int := Machine.credit (s.booth p) (s.slot p)

/-- The lamp of a booth (R22); a FREE booth's is OFF (R5). -/
def State.lamp (s : State) (p : Position) : Lamp :=
  if (s.booth p).mode = .free then .off
  else match (s.booth p).state with
    | .grace => .flash
    | .call =>
      match s.credit p with
      | some c => if c ≤ s.settings.lowCredit then .steady else .off
      | none => .off
    | _ => .off

/-- The timer stands in phase ASSERT. -/
def ClearDown.asserting : ClearDown → Bool
  | .assert _ => true
  | .gap _ => false

/-- The booth runs the clear-down cycle: CLEARING, or FAULT with a call up (R16). -/
def Booth.clearingDown (b : Booth) : Bool := b.state = .clearing ∨ (b.state = .fault ∧ b.callUp)

/-- The clear-down entry of the drive map (R16, R136). -/
def State.clearDown (s : State) (p : Position) : Bool :=
  (s.booth p).clearingDown && (match (s.booth p).timer with | some t => t.asserting | none => false)

/-- The lamp row is driven active: STEADY, or FLASH while the flash phase is ON (R131, R137). -/
def State.lampLit (s : State) (p : Position) : Bool :=
  match s.lamp p with
  | .off => false
  | .steady => true
  | .flash => s.scan.flash

/-! ## Matrix wiring (R128) -/

/-- The position served by a column at its i-th pair of rows (R128): 4c + i. -/
def positionAt (column : Fin 6) (i : Fin 4) : Position := ⟨4 * column.val + i.val, by omega⟩

/-- The column that serves a position (R128): p div 4. -/
def columnOf (p : Position) : Fin 6 := ⟨p.val / 4, by omega⟩

/-- The even row of a position: LOOP in, CLEAR-DOWN out (R128). -/
def evenRow (p : Position) : Nat := 2 * (p.val % 4)

/-- The odd row of a position: ANSWER in, LAMP out (R128). -/
def oddRow (p : Position) : Nat := 2 * (p.val % 4) + 1

/-- The level fixed for a row at the start of a drive segment of a column (R131). -/
def State.rowLevel (s : State) (column : Fin 6) (row : Fin 8) : Bool :=
  let p := positionAt column ⟨row.val / 2, by omega⟩
  if row.val % 2 = 0 then s.clearDown p else s.lampLit p

/-- The eight row levels of a drive segment, row r in bit r (R131). -/
def State.rowLevels (s : State) (column : Fin 6) : Byte :=
  BitVec.ofBoolListLE (([0, 1, 2, 3, 4, 5, 6, 7] : List (Fin 8)).map (s.rowLevel column))

/-- A column line is active for the whole of its step, and at no other time (R128, R139). -/
def State.columnActive (s : State) (column : Fin 6) : Bool := s.scan.segment ≠ .off ∧ s.scan.column = column

/-- What the part drives on the rows: nothing outside a drive segment (R130, R131, R139). -/
def State.rowsDriven (s : State) : Option Byte :=
  match s.scan.segment with
  | .drive rows => some rows
  | _ => none

/-! ## Plain lines -/

/-- The alert line is asserted while the queue level is at or above the alert threshold, and never while a reset
is asserted (R169). -/
def State.alert (s : State) : Bool := !s.resetAsserted && s.settings.alertThreshold ≤ s.reports.length

/-- The level RD_FS is held at while a reset is asserted: the inactive level of the strap last sampled, low where it
has not been sampled (R179). -/
def State.idleSyncLevel (s : State) : Bool := match s.strap with | some high => !high | none => false

/-! ## Period, band and tariff lookup -/

/-- Of two set slots, the one with the larger switch minute; of equals, the later, which has the higher number (R31). -/
def laterPoint (best : Option SwitchPoint) (x : SwitchPoint) : Option SwitchPoint :=
  match best with
  | none => some x
  | some y => if y.minute ≤ x.minute then some x else some y

/-- The set slot with the largest switch minute, the higher slot number among equals (R31). -/
def latestPoint (l : List SwitchPoint) : Option SwitchPoint := l.foldl laterPoint none

/-- The period a list of set slots, in slot order, selects at a minute (R31). -/
def periodAt (points : List SwitchPoint) (minute : Nat) : Period :=
  match latestPoint (points.filter fun x => x.minute ≤ minute) with
  | some x => x.period
  | none =>
    match latestPoint points with
    | some x => x.period
    | none => 0

/-- The set schedule slots in slot order. -/
def State.setPoints (s : State) : List SwitchPoint := s.schedule.toList.filterMap id

/-- The current period (R31): 0 while the minute of day is absent or no slot is set. -/
def State.currentPeriod (s : State) : Period :=
  match s.minute with
  | some m => periodAt s.setPoints m
  | none => 0

/-- The effective band: the booth's band, else the unknown band setting (R32). -/
def State.effectiveBand (s : State) (p : Position) : Band := (s.booth p).band.getD s.settings.unknownBand

/-- The tariff lookup for a band in the current period (R29): none is UNSET. -/
def State.lookup (s : State) (band : Band) : Option TariffEntry := s.tariff[band][s.currentPeriod]

/-- The band a value of card word 6 stands for: values above 15 stand for the unknown band setting (R2, R32). -/
def State.bandOf (s : State) (v : Word) : Band :=
  if h : v.toNat < 16 then ⟨v.toNat, h⟩ else s.settings.unknownBand

/-! ## Eligibility and needs (spec/03) -/

/-- The insertion parity allows a frame number (R47). With no frame number seen only ANY allows (log entry 14). -/
def parityAllows (parity : Parity) (frame : Option Byte) : Bool :=
  match parity, frame with
  | .any, _ => true
  | .even, some n => n.toNat % 2 = 0
  | .odd, some n => n.toNat % 2 = 1
  | _, none => false

/-- The position is eligible for an own request (R46). -/
def State.eligible (s : State) (p : Position) : Bool :=
  (s.booth p).mode = .charged ∧ (s.booth p).state ≠ .fault ∧ (s.booth p).present = .yes ∧ s.sup.highway = .running ∧
    (s.slot p).inFlight = none ∧ (s.slot p).lock = 0 ∧ parityAllows s.settings.parity s.port.frameNumber

/-- The debit conditions (R51) at the balance `n`. -/
def State.debitDue (s : State) (p : Position) (n : Nat) : Bool :=
  let b := s.booth p
  0 < b.owed ∧ 0 < n ∧ b.pendingRes = none ∧
    (s.settings.insertionThreshold ≤ b.owed ∨ b.state = .card ∨ b.state = .grace ∨ b.state = .clearing ∨ n ≤ b.owed)

/-- The value of a debit write: b − min(W, b) (R51). -/
def debitValue (owed n : Nat) : Nat := n - min owed n

/-- Needs 2 to 5 of the order of needs (R48). -/
def State.need (s : State) (p : Position) : Option OwnRequest :=
  let b := s.booth p
  if b.serialHigh = none then some (.read 0)
  else if b.serialLow = none then some (.read 1)
  else match b.known with
    | none => some (.read 4)
    | some n => if s.debitDue p n then some (.write (debitValue b.owed n)) else none

/-- The request a reader receives for an own request (R119). -/
def OwnRequest.sent : OwnRequest → ReaderRequest
  | .read a => .read a
  | .write v => .write 4 v

/-- The resume check has found a call up (R20): the booth is CHARGED and still waits, both first values high. -/
def Booth.foundUp (b : Booth) : Bool :=
  b.mode = .charged ∧ b.resumed = .waiting ∧ b.firstLoop = some true ∧ b.firstAnswer = some true

end Sys2Proof.Machine
end

