-- ==== Sys2Proof/Machine/Operands.lean ====
section
/-! DEFINITION. The operand forms: fields of a header and of a table word, clamping and selecting (R155, R158, R174, R176). -/

namespace Sys2Proof.Machine

/-- Bit 0 of the flags byte is RESTART (R174). -/
def restartFlag (flags : Byte) : Bool := flags.getLsbD 0

/-- Bit 1 of the flags byte is TABLE WORD PRESENT (R174). -/
def tableWordPresent (flags : Byte) : Bool := flags.getLsbD 1

/-- A value outside its range is taken as the nearest value in range (R155). -/
def clamp (lo hi v : Nat) : Nat := max lo (min hi v)

/-- A selecting field in range names what the word writes; outside its range the word is ignored (R155). -/
def selectFin (n : Nat) (v : Nat) : Option (Fin n) := if h : v < n then some ⟨v, h⟩ else none

/-- A period carried as a value is clamped to 3 (R155, R157). -/
def clampPeriod (v : Byte) : Period := if h : v.toNat < 4 then ⟨v.toNat, h⟩ else 3

/-- A band carried as a setting's value is clamped to 15 (R158). -/
def clampBand (v : Word) : Band := if h : v.toNat < 16 then ⟨v.toNat, h⟩ else 15

/-- An insertion parity of 2 or more is ODD (R158). -/
def clampParity (v : Word) : Parity :=
  match v.toNat with
  | 0 => .any
  | 1 => .even
  | _ => .odd

/-- The tariff entry a TARIFF word carries, both values clamped (R155, R156). -/
def tariffEntry (charge : Byte) (rate : Word) : TariffEntry :=
  { charge := clamp 0 15 charge.toNat, rate := clamp 0 4095 rate.toNat }

/-- What a SCHEDULE word makes of its slot (R30, R157): none is unused. -/
def switchPoint (minute : Word) (period : Byte) : Option SwitchPoint :=
  if minute.toNat < Config.minutesPerDay then some { minute := minute.toNat, period := clampPeriod period } else none

/-- The settings after a SETTING word (R158). A number outside 0 to 11 changes nothing (R155). -/
def Settings.set (t : Settings) (number : Byte) (v : Word) : Settings :=
  match number.toNat with
  | 0 => { t with insertionThreshold := clamp 1 15 v.toNat }
  | 1 => { t with rowAllowance := clamp 0 15 v.toNat }
  | 2 => { t with lowCredit := clamp 0 255 v.toNat }
  | 3 => { t with graceTime := clamp 0 60 v.toNat }
  | 4 => { t with lockLimit := clamp 2 15 v.toNat }
  | 5 => { t with retention := clamp 1 255 v.toNat }
  | 6 => { t with parity := clampParity v }
  | 7 => { t with debounceCount := clamp 2 8 v.toNat }
  | 8 => { t with scanStep := clamp 1 64 v.toNat }
  | 9 => { t with clearDownHold := clamp 1 20 v.toNat }
  | 10 => { t with alertThreshold := clamp 1 32 v.toNat }
  | 11 => { t with unknownBand := clampBand v }
  | _ => t

/-- The mode a POSITION word carries: 0 is CHARGED, any other value FREE (R155, R159). -/
def modeOf (v : Byte) : Mode := if v.toNat = 0 then .charged else .free

end Sys2Proof.Machine
end

