-- ==== Sys2Proof/Machine/Ops.lean ====
section
/-! DEFINITION. The shared operations: updates of a context, placing a report, dropping units, adding to W, evaluating credit, clearing down, settling, the Arrears List, cards, calls, faults. -/

namespace Sys2Proof.Machine

/-! ## Updates of one context -/

/-- The state with another booth context at `p`. -/
def State.setBooth (s : State) (p : Position) (b : Booth) : State := { s with booths := s.booths.set p.val b p.isLt }

/-- The state with another interception context at `p`. -/
def State.setSlot (s : State) (p : Position) (c : Intercept) : State := { s with slots := s.slots.set p.val c p.isLt }

/-- An update of the booth context at `p`. -/
def State.onBooth (s : State) (p : Position) (f : Booth → Booth) : State := s.setBooth p (f (s.booth p))

/-- An update of the interception context at `p`. -/
def State.onSlot (s : State) (p : Position) (f : Intercept → Intercept) : State := s.setSlot p (f (s.slot p))

/-- An operation at every position, lowest first. -/
def State.forAll (s : State) (f : Position → State → State) : State := positions.foldl (fun s p => f p s) s

/-- While a reset is asserted no event is taken (R24, R89, R139, R141, R163). -/
def State.live (s : State) (f : State → State) : State := if s.resetAsserted then s else f s

/-- The bytes of a frame act only while the frame is taken: not during a reset, and not before the first frame start
after a reset or after a loss (R89, R93). -/
def State.inFrame (s : State) (f : State → State) : State := s.live fun s => if s.port.inProgress then f s else s

/-- The frame has reached at least byte time `n`. -/
def State.reach (s : State) (n : Nat) : State := { s with port := { s.port with byteTime := max s.port.byteTime n } }

/-! ## Reports and the account -/

/-- A record is placed: it joins the queue at the newest place, or is discarded and counted when the queue holds 32
records (R166, R168). -/
def State.place (s : State) (r : Report) : State :=
  if s.reports.length < Config.queueCapacity then { s with reports := s.reports ++ [r] }
  else { s with lost := min Config.lostMax (s.lost + 1) }

/-- A record is placed where its condition holds. -/
def State.placeIf (s : State) (c : Bool) (r : Report) : State := if c then s.place r else s

/-- Units accrued by an answer or a tick, each counted once (R66). -/
def State.addAccrued (s : State) (n : Nat) : State := { s with ledger := { s.ledger with accrued := s.ledger.accrued + n } }

/-- Units taken off a card by a write accounted by the part (R66). -/
def State.addDebited (s : State) (n : Nat) : State := { s with ledger := { s.ledger with debited := s.ledger.debited + n } }

/-- Units removed from the account and reported as dropped (R66). -/
def State.addDropped (s : State) (n : Nat) : State := { s with ledger := { s.ledger with dropped := s.ledger.dropped + n } }

/-- A UNITS DROPPED record (10.2). -/
def Report.unitsDropped (p : Position) (n : Nat) (cause : DropCause) : Report :=
  { kind := .unitsDropped cause, position := some p, serial := none, units := n, aux := 0 }

/-- A CLEAR-DOWN record (R15). -/
def Report.clearDown (p : Position) (cause : ClearCause) : Report :=
  { kind := .clearDown cause, position := some p, serial := none, units := 0, aux := 0 }

/-- A record that carries a position only: READER FAULT, LOCK EXPIRED (10.2). -/
def Report.atPosition (kind : ReportKind) (p : Position) : Report :=
  { kind := kind, position := some p, serial := none, units := 0, aux := 0 }

/-- A record of the row as a whole: HIGHWAY LOST, HIGHWAY RESTORED, WARM RESTART (10.2). -/
def Report.ofRow (kind : ReportKind) (units aux : Nat) : Report :=
  { kind := kind, position := none, serial := none, units := units, aux := aux }

/-- The CALL END record of a booth (R17). -/
def Report.callEnd (p : Position) (b : Booth) : Report :=
  { kind := .callEnd, position := some p, serial := b.lastSerial, units := b.callUnits, aux := b.bandAtAnswer.val }

/-- The ARREARS OPENED record of an opening (R76). -/
def Report.opened (q : Position) (serial u : Nat) (pair : Option Pair) : Report :=
  { kind := .arrearsOpened, position := some q, serial := some serial, units := u, aux := if pair.isSome then 1 else 0 }

/-- An ARREARS COLLECTED record (R71, R80). -/
def Report.collected (r : Position) (serial u aux : Nat) : Report :=
  { kind := .arrearsCollected, position := some r, serial := some serial, units := u, aux := aux }

/-- One ARREARS DROPPED record (R75, R79). -/
def Report.entryDropped (e : ArrearsEntry) (cause : EntryDropCause) (units aux : Nat) : Report :=
  { kind := .arrearsDropped cause, position := some e.origin, serial := some e.serial, units := units, aux := aux }

/-- A REFUSED WRITE record (R112). -/
def Report.refusedWrite (p : Position) (cause : RefuseCause) (attempted : Nat) : Report :=
  { kind := .refusedWrite cause, position := some p, serial := none, units := 0, aux := attempted }

/-- Units of a booth are dropped with one UNITS DROPPED report. -/
def State.dropUnits (s : State) (p : Position) (n : Nat) (cause : DropCause) : State :=
  (s.place (.unitsDropped p n cause)).addDropped n

/-- Units with no debt serial are dropped as NO SERIAL; a sum above 65,535 is split in two reports (R9, R165). -/
def State.dropNoSerial (s : State) (p : Position) (n : Nat) : State :=
  if n ≤ Config.unitsMax then s.dropUnits p n .noSerial
  else (s.dropUnits p Config.unitsMax .noSerial).dropUnits p (n - Config.unitsMax) .noSerial

/-- The units of an entry that has left the list are dropped, reported in one record or, above 65,535 units, in two
(R75, R79, R165). -/
def State.dropEntry (s : State) (e : ArrearsEntry) (cause : EntryDropCause) : State :=
  ((s.place (.entryDropped e cause (min Config.unitsMax e.units) (pairK e.pair))).placeIf
    (Config.unitsMax < e.units) (.entryDropped e cause (e.units - Config.unitsMax) 0)).addDropped e.units

/-! ## Credit, W and clear-down -/

/-- Ticks of a full grace time (R12). -/
def State.graceTicks (s : State) : Nat := s.settings.graceTime * Config.ticksPerSecond

/-- Entry to GRACE with the full grace time (R9, R12). -/
def State.enterGrace (s : State) (p : Position) : State :=
  s.onBooth p fun b => { b with state := .grace, grace := s.graceTicks }

/-- Available credit is evaluated (R3): CALL to GRACE at 0 or less (R12), GRACE to CALL above 0 with an identified
card present (R14). -/
def State.evaluate (s : State) (p : Position) : State :=
  match s.credit p with
  | none => s
  | some c =>
    let b := s.booth p
    if b.state = .call ∧ c ≤ 0 then s.enterGrace p
    else if b.state = .grace ∧ b.present = .yes ∧ b.serial.isSome ∧ 0 < c then
      s.onBooth p fun b => { b with state := .call, grace := 0 }
    else s

/-- Entry to CLEARING (R15): the report, no grace, the timer at ASSERT with the clear-down hold. -/
def State.enterClearing (s : State) (p : Position) (cause : ClearCause) : State :=
  (s.onBooth p fun b =>
    { b with state := .clearing, grace := 0, timer := some (.assert s.settings.clearDownHold) }).place (.clearDown p cause)

/-- An addition of `n` to W passes 65,535 (R40). -/
def State.saturates (s : State) (p : Position) (n : Nat) : Bool := Config.unitsMax < (s.booth p).owed + n

/-- `n` units are added to W; the excess above 65,535 is dropped and reported (R40). -/
def State.addOwed (s : State) (p : Position) (n : Nat) : State :=
  let w := (s.booth p).owed + n
  if w ≤ Config.unitsMax then s.onBooth p fun b => { b with owed := w }
  else (s.onBooth p fun b => { b with owed := Config.unitsMax }).dropUnits p (w - Config.unitsMax) .saturated

/-- After an addition to W that saturated, a booth in CALL or GRACE goes to CLEARING (R40). -/
def State.clearSaturated (s : State) (p : Position) : State :=
  if (s.booth p).state = .call ∨ (s.booth p).state = .grace then s.enterClearing p .saturated else s

/-- `n` units are added to W with all that R40 says of a saturation. -/
def State.charge (s : State) (p : Position) (n : Nat) : State :=
  if s.saturates p n then (s.addOwed p n).clearSaturated p else s.addOwed p n

/-! ## Pending resolutions (R62) -/

/-- The pending resolution is settled against the known balance, where both are present (R62). R62 says that a settlement
places no report other than UNITS DROPPED, while its step 2 saturates as R40 states; a booth in CALL or GRACE that so goes
to CLEARING places the CLEAR-DOWN report of R15 as well (DEDUCED, log entry 30). -/
def State.settlePending (s : State) (p : Position) : State :=
  match (s.booth p).pendingRes, (s.booth p).known with
  | some q, some n =>
    (((s.onBooth p fun b => { b with pendingRes := none }).addDebited (q.k - q.extra n)).charge p (q.extra n)).evaluate p
  | _, _ => s

/-- A pair reaches a booth: it becomes the pending resolution and is settled at once where the balance is known, or
its k is dropped as UNRESOLVED where the booth already holds one (R62, R81). -/
def State.takePair (s : State) (p : Position) (q : Pair) : State :=
  match (s.booth p).pendingRes with
  | none => (s.onBooth p fun b => { b with pendingRes := some q }).settlePending p
  | some _ => s.dropUnits p q.k .unresolved

/-- A held own request is discarded or released. -/
def State.dropHeld (s : State) (p : Position) : State := s.onSlot p fun c => { c with held := none }

/-- A held own READ of `a` is discarded: the word has become known (R55). -/
def State.dropHeldRead (s : State) (p : Position) (a : WordAddr) : State :=
  s.onSlot p fun c => if c.held.map Held.request = some (.read a) then { c with held := none } else c

/-- The held request is an own WRITE. -/
def Held.isWrite (h : Held) : Bool := match h.request with | .write _ => true | .read _ => false

/-- A held own WRITE is discarded: the known balance has changed (R2, R55). -/
def State.dropHeldWrite (s : State) (p : Position) : State :=
  s.onSlot p fun c => if c.held.any Held.isWrite then { c with held := none } else c

/-- The known balance becomes `n` (R2). A change settles the pending resolution, discards a held own WRITE and
evaluates available credit; the value it already holds has no consequence. -/
def State.setKnown (s : State) (p : Position) (n : Nat) : State :=
  if (s.booth p).known = some n then s
  else (((s.onBooth p fun b => { b with known := some n }).dropHeldWrite p).settlePending p).evaluate p

/-- A reply makes the known balance `n` (R2). By other traffic than the part's own this also discards a held READ of word
4 (R55), the value already held excepted (log entry 16); in a slot of the part's own, R53 says what becomes of it. -/
def State.learnBalance (s : State) (p : Position) (n : Nat) (own : Bool) : State :=
  if own ∨ (s.booth p).known = some n then s.setKnown p n else (s.dropHeldRead p 4).setKnown p n

/-! ## The Arrears List (spec/04) -/

/-- The entry for a serial; a search finds at most one (R68). -/
def findEntry (l : List ArrearsEntry) (serial : Nat) : Option ArrearsEntry := l.find? fun e => e.serial = serial

/-- The list without the entry for a serial, the order closed up (R68). -/
def withoutEntry (l : List ArrearsEntry) (serial : Nat) : List ArrearsEntry := l.filter fun e => e.serial ≠ serial

/-- What an opening makes of the list: the entries, the evicted entry, the excess of a saturated merge, and the k
of a pair dropped as UNRESOLVED. -/
structure Opening where
  entries : List ArrearsEntry
  evicted : Option ArrearsEntry
  excess : Nat
  unresolved : Option Nat
  deriving DecidableEq, Repr

/-- A merge or a new entry (R73 to R75). -/
def openEntry (l : List ArrearsEntry) (q : Position) (serial u : Nat) (pair : Option Pair) : Opening :=
  match findEntry l serial with
  | some e =>
    { entries := withoutEntry l serial ++
        [{ serial := serial, owed := min Config.unitsMax (e.owed + u),
           pair := (match e.pair with | some x => some x | none => pair), age := 0, origin := q }],
      evicted := none, excess := e.owed + u - Config.unitsMax,
      unresolved := if e.pair.isSome then pair.map Pair.k else none }
  | none =>
    { entries := (if Config.arrearsCapacity ≤ l.length then l.tail else l) ++
        [{ serial := serial, owed := u, pair := pair, age := 0, origin := q }],
      evicted := if Config.arrearsCapacity ≤ l.length then l.head? else none, excess := 0, unresolved := none }

/-- The units of the evicted entry of an opening, if there is one, are dropped (R75). -/
def State.dropEvicted (s : State) (e : Option ArrearsEntry) : State :=
  match e with | some e => s.dropEntry e .evicted | none => s

/-- The excess of a saturated merge is dropped (R74). -/
def State.dropExcess (s : State) (q : Position) (n : Nat) : State := if 0 < n then s.dropUnits q n .saturated else s

/-- The k of a pair that an entry cannot take is dropped (R73). -/
def State.dropUnresolved (s : State) (q : Position) (k : Option Nat) : State :=
  match k with | some k => s.dropUnits q k .unresolved | none => s

/-- The list receives an opening that is not a direct transfer, with its reports in the order of R76. -/
def State.openInList (s : State) (q : Position) (serial u : Nat) (pair : Option Pair) : State :=
  let o := openEntry s.arrears q serial u pair
  (((({ s with arrears := o.entries }).dropEvicted o.evicted).place (.opened q serial u pair)).dropExcess q
    o.excess).dropUnresolved q o.unresolved

/-- The extra units a pair brings to a booth that takes it with its balance known; 0 where it is not settled at once. -/
def State.extraAt (s : State) (r : Position) (pair : Option Pair) : Nat :=
  match pair, (s.booth r).pendingRes, (s.booth r).known with
  | some q, none, some n => q.extra n
  | _, _, _ => 0

/-- The pair of a direct transfer at the receiving booth, before any clear-down (R71, steps 2 and 3). -/
def State.transferPair (s : State) (r : Position) (pair : Option Pair) : State :=
  match pair with
  | none => s
  | some q =>
    match (s.booth r).pendingRes, (s.booth r).known with
    | some _, _ => s.dropUnits r q.k .unresolved
    | none, some n => (s.addOwed r (q.extra n)).addDebited (q.k - q.extra n)
    | none, none => s.onBooth r fun b => { b with pendingRes := some q }

/-- The aux value of a direct transfer's ARREARS COLLECTED report: the k of the pair if it was handed over (R71). -/
def State.handedK (s : State) (r : Position) (pair : Option Pair) : Nat :=
  if (s.booth r).pendingRes = none then pairK pair else 0

/-- A direct transfer of units and a pair from booth `q` to booth `r` (R71), its reports in the order of R76: the
CLEAR-DOWN report comes after every UNITS DROPPED report. -/
def State.transfer (s : State) (q r : Position) (serial u : Nat) (pair : Option Pair) : State :=
  let full := s.saturates r (u + s.extraAt r pair)
  let s := (s.place (.opened q serial u pair)).place (.collected r serial u (s.handedK r pair))
  let s := (s.addOwed r u).transferPair r pair
  (if full then s.clearSaturated r else s).evaluate r

/-- An opening of arrears (R70): direct transfer to a booth that holds the serial, else a merge or a new entry. -/
def State.openArrears (s : State) (q : Position) (serial u : Nat) (pair : Option Pair) : State :=
  match s.holder serial with
  | some r => s.transfer q r serial u pair
  | none => s.openInList q serial u pair

/-- Units and one pair leave a booth (R9, third step): an opening under the debt serial, or dropped as NO SERIAL. With
no units and no pair nothing is opened or reported. -/
def State.sendOut (s : State) (p : Position) (debt : Option Nat) (u : Nat) (pair : Option Pair) : State :=
  if u = 0 ∧ pair = none then s
  else match debt with
    | some serial => s.openArrears p serial u pair
    | none => s.dropNoSerial p (u + pairK pair)

/-- The entry for an identified serial is collected at `p` (R80, R81). -/
def State.collect (s : State) (p : Position) (serial : Nat) : State :=
  match findEntry s.arrears serial with
  | none => s
  | some e =>
    let s := { s with arrears := withoutEntry s.arrears serial }
    let s := (s.place (.collected p serial e.owed (pairK e.pair))).charge p e.owed
    match e.pair with | some q => s.takePair p q | none => s

/-- An entry expires: it is removed and its units are dropped (R79). -/
def State.expire (s : State) (e : ArrearsEntry) : State :=
  ({ s with arrears := withoutEntry s.arrears e.serial }).dropEntry e .expired

/-! ## Modes and VACANT (spec/01, 1.2) -/

/-- A mode is applied at a booth in VACANT (R160): a change to CHARGED sets resumed to NO. -/
def Booth.applyMode (b : Booth) (m : Mode) : Booth :=
  if b.mode = .free ∧ m = .charged then { b with mode := .charged, resumed := .no } else { b with mode := m }

/-- Entry to VACANT: the pending mode is applied (R4). -/
def Booth.enterVacant (b : Booth) : Booth :=
  match b.pendingMode with
  | some m => { ({ b with state := .vacant }).applyMode m with pendingMode := none }
  | none => { b with state := .vacant }

/-- A POSITION word delivers a mode (R4, R159). -/
def Booth.deliverMode (b : Booth) (m : Mode) : Booth :=
  if b.state = .vacant then { b.applyMode m with pendingMode := none } else { b with pendingMode := some m }

/-! ## Calls (spec/01, 1.5 and 1.7) -/

/-- A charged call starts at a booth in CARD (R10, R34). -/
def State.startCall (s : State) (p : Position) : State :=
  let band := s.effectiveBand p
  match s.lookup band with
  | some e =>
    let a := e.charge + (if 0 < e.rate then 1 else 0)
    (((s.onBooth p fun b =>
      { b with state := .call, callUp := true, resumed := .no, bandAtAnswer := band, rate := some e.rate, fraction := 0,
               callUnits := a, lastSerial := b.serial }).addAccrued a).charge p a).evaluate p
  | none =>
    (s.onBooth p fun b =>
      { b with callUp := true, resumed := .no, bandAtAnswer := band, rate := none, callUnits := 0,
               lastSerial := b.serial }).enterClearing p .tariffUnset

/-- An OPEN call starts at a booth in VACANT (R11). -/
def State.startOpen (s : State) (p : Position) : State :=
  s.onBooth p fun b =>
    { b with state := .opened, callUp := true, bandAtAnswer := s.settings.unknownBand, callUnits := 0 }

/-- A call starts in FAULT (R19): the clear-down cycle begins. -/
def State.startFaultCall (s : State) (p : Position) : State :=
  (s.onBooth p fun b =>
    { b with callUp := true, bandAtAnswer := s.effectiveBand p, callUnits := 0,
             timer := some (.assert s.settings.clearDownHold) }).place (.clearDown p .readerFault)

/-- A resumed call starts (R21): no answer charge and no advance unit, at the unknown band, also where a band was read
while the call was waiting (DEDUCED, log entry 29: the first tick then re-selects at the band read). Of an UNSET entry R21
does not say what resumed becomes: it is NO there too, because the call has started (DEDUCED, log entry 13). -/
def State.startResumed (s : State) (p : Position) : State :=
  let band := s.settings.unknownBand
  match s.lookup band with
  | some e =>
    let s := s.onBooth p fun b =>
      { b with state := .call, callUp := true, resumed := .no, bandAtAnswer := band, rate := some e.rate, fraction := 0,
               callUnits := 0, lastSerial := (match b.serial with | some n => some n | none => b.lastSerial) }
    if (s.booth p).present = .yes then s.evaluate p else s.enterGrace p
  | none =>
    (s.onBooth p fun b => { b with callUp := true, resumed := .no, bandAtAnswer := band, rate := none }).enterClearing p
      .tariffUnset

/-- An ANSWER rise with LOOP high at a CHARGED booth (R10, R11, R19, R134). -/
def State.answerRise (s : State) (p : Position) : State :=
  match (s.booth p).state with
  | .card => s.startCall p
  | .vacant => s.startOpen p
  | .fault => s.startFaultCall p
  | .call | .grace | .clearing | .opened => s

/-- The resume check is decided with the call found up (R20): the resumed call starts where the card state is known,
and in FAULT the call starts as R19 says. -/
def State.resumeFound (s : State) (p : Position) : State :=
  match (s.booth p).state with
  | .fault => (s.onBooth p fun b => { b with resumed := .no }).startFaultCall p
  | _ => if (s.booth p).present = .unknown then s else s.startResumed p

/-- The resume check after a first value has been received (R20). -/
def State.checkResume (s : State) (p : Position) : State :=
  match (s.booth p).firstLoop, (s.booth p).firstAnswer with
  | some true, some true => s.resumeFound p
  | some _, some _ => s.onBooth p fun b => { b with resumed := .no }
  | _, _ => s

/-- Call end at a booth in CALL, GRACE, CLEARING or OPEN (R17). -/
def State.endCall (s : State) (p : Position) : State :=
  let b := s.booth p
  let s := s.place (.callEnd p b)
  let cleared :=
    { b with fraction := 0, rate := none, callUp := false, grace := 0, timer := none, resumed := .no, band := none,
             lastSerial := none }
  if b.present = .yes then s.setBooth p { cleared with state := .card }
  else
    ((s.setBooth p { cleared with owed := 0, pendingRes := none }).sendOut p b.lastSerial b.owed b.pendingRes).onBooth p
      Booth.enterVacant

/-- Call end at a booth in FAULT (R19): the booth stays in FAULT. -/
def State.endFaultCall (s : State) (p : Position) : State :=
  let b := s.booth p
  ((s.place (.callEnd p b)).setBooth p
    { b with fraction := 0, rate := none, callUp := false, timer := none, owed := 0, lastSerial := none }).sendOut p
      b.lastSerial b.owed none

/-- A delivered fall of LOOP or ANSWER (R17, R20, R134). -/
def State.lineFall (s : State) (p : Position) : State :=
  if (s.booth p).callUp then
    if (s.booth p).state = .fault then s.endFaultCall p else s.endCall p
  else if (s.booth p).resumed = .waiting then s.onBooth p fun b => { b with resumed := .no }
  else s

/-! ## Cards (spec/01, 1.4) -/

/-- The card's fields as removal and insertion leave them (R6, R9). -/
def Booth.forgetCard (b : Booth) : Booth :=
  { b with serialHigh := none, serialLow := none, known := none, band := none }

/-- Card insertion (R6). -/
def State.insertCard (s : State) (p : Position) : State :=
  let b := s.booth p
  let s := s.setBooth p { b.forgetCard with present := .yes, state := if b.state = .vacant then .card else b.state }
  if b.state = .vacant ∧ b.foundUp then s.startResumed p else s

/-- The state after a removal (R9, fourth step). -/
def State.afterRemoval (s : State) (p : Position) : State :=
  match (s.booth p).state with
  | .card => s.onBooth p Booth.enterVacant
  | .call => s.enterGrace p
  | .vacant | .grace | .clearing | .opened | .fault => s

/-- Card removal outside FAULT (R9), with the debt serial a card change fixes, if any (R8). The interceptor closes the
lock, discards the held own request and clears the in-flight record (R55, R118, R126). -/
def State.removeCard (s : State) (p : Position) (fixed : Option Nat) : State :=
  let b := s.booth p
  let c := s.slot p
  let debt := match fixed with | some n => some n | none => b.debtSerial
  let s := s.setBooth p { b.forgetCard with present := .no, expected := none, owed := 0, pendingRes := none }
  let s := s.setSlot p { c with inFlight := none, lock := 0, held := none }
  (s.sendOut p debt b.owed (outPair c b)).afterRemoval p

/-- Identification after the expected serial has been checked (R7, steps 2 to 4). -/
def State.identified (s : State) (p : Position) : State :=
  match (s.booth p).serial with
  | none => s
  | some n =>
    ((s.onBooth p fun b => { b with lastSerial := if b.callUp then some n else b.lastSerial }).collect p n).evaluate p

/-- Both halves have become known (R7). An expected serial that differs makes a card change whose removal half opens
arrears under the expected serial, and the new card is then identified (R8). -/
def State.identify (s : State) (p : Position) : State :=
  let b := s.booth p
  match b.serial with
  | none => s
  | some n =>
    match b.expected with
    | none => s.identified p
    | some e =>
      if e = n then (s.onBooth p fun b => { b with expected := none }).identified p
      else
        (((s.removeCard p (some e)).insertCard p).onBooth p fun x =>
          { x with serialHigh := b.serialHigh, serialLow := b.serialLow }).identified p

/-- The booth with one serial half known: word 0 is the high half, word 1 the low half (R2, R178). -/
def Booth.withHalf (b : Booth) (high : Bool) (v : Nat) : Booth :=
  if high then { b with serialHigh := some v } else { b with serialLow := some v }

/-- A DATA reply for word 0 or 1 (R2): an unknown half becomes known, an equal one stays, a different one makes a
card change (R8). -/
def State.readHalf (s : State) (p : Position) (high : Bool) (v : Nat) : State :=
  match (if high then (s.booth p).serialHigh else (s.booth p).serialLow) with
  | none => ((s.onBooth p fun b => b.withHalf high v).dropHeldRead p (if high then 0 else 1)).identify p
  | some w =>
    if w = v then s else ((s.removeCard p none).insertCard p).onBooth p fun b => b.withHalf high v

/-! ## Reader faults (spec/01, 1.6; spec/08, 8.5) -/

/-- FAULT entry (R18, R151). -/
def State.enterFault (s : State) (p : Position) : State :=
  let b := s.booth p
  let c := s.slot p
  let s := s.place (.atPosition .readerFault p)
  let s := s.setBooth p
    { b with serialHigh := none, serialLow := none, expected := none, known := none, present := .yes, owed := 0,
             pendingRes := none, state := .fault, grace := 0,
             timer := if b.callUp ∧ b.timer = none then some (.assert s.settings.clearDownHold) else b.timer }
  let s := s.setSlot p { c with inFlight := none, held := none }
  (s.sendOut p b.debtSerial b.owed (outPair c b)).placeIf b.callUp (.clearDown p .readerFault)

/-- A reader fault is declared (R149 to R152): FAULT entry, or a further fault in FAULT. -/
def State.declareFault (s : State) (p : Position) : State :=
  if (s.booth p).state = .fault then
    (s.place (.atPosition .readerFault p)).onSlot p fun c => { c with inFlight := none }
  else s.enterFault p

/-- FAULT exit at an ABSENT reply (R19): W opens arrears under the last serial, a call up ends, the booth is VACANT. -/
def State.leaveFault (s : State) (p : Position) : State :=
  let b := s.booth p
  let s := s.setBooth p { b.forgetCard with present := .no, owed := 0 }
  let s := s.onSlot p fun c => { c with inFlight := none, lock := 0, held := none }
  ((s.sendOut p b.lastSerial b.owed none).placeIf b.callUp (.callEnd p b)).onBooth p fun b =>
    { b with rate := none, fraction := 0, callUp := false, lastSerial := none, timer := none }.enterVacant

/-! ## Writes in flight (spec/03, 3.5 and 3.6) -/

/-- The prior balance and covered units of a write at its ACCEPTED (R58, R59). -/
def acceptedPair (b : Booth) (r : SlotRecord) (a : WordAddr) (v : Nat) : Option Nat × Nat :=
  if a ≠ 4 then (none, 0)
  else match b.known with
    | none => (none, 0)
    | some n =>
      match r.origin, r.treatment with
      | .own, _ => (some n, n - v)
      | .row, .converted => (some n, 0)
      | .row, _ => (some n, min b.owed (n - v))

/-- The in-flight record of a sent write is opened, and W falls by k (R58, R59, R94, R124). An own write's held
request is released. -/
def State.openRecord (s : State) (p : Position) (r : SlotRecord) (a : WordAddr) (v : Nat) : State :=
  let x := acceptedPair (s.booth p) r a v
  let s := s.onBooth p fun b => { b with owed := b.owed - x.2 }
  let s := s.onSlot p fun c =>
    { c with inFlight := some { origin := r.origin, word := a, value := v, prior := x.1, k := x.2, frames := 0 },
             held := if r.origin = .own then none else c.held }
  s.evaluate p

/-- A record of word 4 is settled by a value (R60): extra units return to W, the rest are debited, and the known
balance becomes the value. `own` says that the value came in no other traffic than the part's own (R53, R55). -/
def State.settleRecord (s : State) (p : Position) (r : InFlight) (v : Nat) (own : Bool) : State :=
  let extra := min r.k (v - r.value)
  ((((s.onSlot p fun c => { c with inFlight := none }).addDebited (r.k - extra)).charge p extra).learnBalance p v
    own).evaluate p

/-- An in-flight record is cleared with no accounting (R126). -/
def State.clearRecord (s : State) (p : Position) : State := s.onSlot p fun c => { c with inFlight := none }

/-- The record is settled as not performed (R95): for word 4 as a WRITTEN of the prior balance, where there is one, and
otherwise cleared. The prior balance is the one held, and no traffic brings it. -/
def State.notPerformed (s : State) (p : Position) (r : InFlight) : State :=
  if r.word = 4 then
    match r.prior with
    | some n => s.settleRecord p r n true
    | none => s.clearRecord p
  else s.clearRecord p

end Sys2Proof.Machine
end

