-- ==== Sys2Proof/Machine/Charging.lean ====
section
/-! DEFINITION. Family: the charge tick and what it drives (spec/02): accrual, grace countdown, clear-down timer, flash step, age step, expiry. -/

namespace Sys2Proof.Machine

/-- The rate a tick re-selects (R37): the rate of a SET entry, else the rate held. -/
def State.reselect (s : State) (p : Position) (rate : Nat) : Nat :=
  match s.lookup (s.effectiveBand p) with
  | some e => e.rate
  | none => rate

/-- Steps 1 to 3 of a tick at a booth whose rate in use is `rate` (R36 to R40): re-selection, accrual, and, where units
were added to W, credit. -/
def State.accrue (s : State) (p : Position) (rate : Nat) : State :=
  let r := s.reselect p rate
  let sum := (s.booth p).fraction + r
  let n := sum / Config.quantaPerUnit
  let s := (s.onBooth p fun b =>
    { b with rate := some r, fraction := sum % Config.quantaPerUnit,
             callUnits := min Config.unitsMax (b.callUnits + n) }).addAccrued n
  if n = 0 then s else (s.charge p n).evaluate p

/-- The move of the grace countdown on a tick (R13). -/
def State.countGrace (s : State) (p : Position) : State :=
  let n := (s.booth p).grace
  if n ≤ 1 then s.enterClearing p .graceExpired else s.onBooth p fun b => { b with grace := n - 1 }

/-- The move of the clear-down timer on a tick (R16). -/
def ClearDown.move (hold : Nat) : ClearDown → ClearDown
  | .assert n => if n ≤ 1 then .gap Config.gapTicks else .assert (n - 1)
  | .gap n => if n ≤ 1 then .assert hold else .gap (n - 1)

/-- The clear-down timer moves at a booth that runs the clear-down cycle (R16, R36). -/
def State.moveTimer (s : State) (p : Position) : State :=
  if (s.booth p).clearingDown then
    s.onBooth p fun b => { b with timer := b.timer.map (ClearDown.move s.settings.clearDownHold) }
  else s

/-- A tick at one booth (R36), each step on the booth as the step before left it. -/
def State.tickBooth (p : Position) (s : State) : State :=
  let b := s.booth p
  let s1 := match b.rate with | some r => s.accrue p r | none => s
  let s2 := if b.state = .grace ∧ (s1.booth p).state = .grace then s1.countGrace p else s1
  if b.timer.isSome then s2.moveTimer p else s2

/-- A flash step toggles the flash phase (R137). -/
def State.toggleFlash (s : State) : State := { s with scan := { s.scan with flash := !s.scan.flash } }

/-- An age step (R78, R79): every age rises by 1, and the entries whose age has reached the arrears retention expire,
oldest first. -/
def State.ageEntries (s : State) : State :=
  let aged := s.arrears.map fun e => { e with age := e.age + 1 }
  (aged.filter fun e => s.settings.retention ≤ e.age).foldl (fun s e => s.expire e) { s with arrears := aged }

/-- The loss duration rises by 1 at each tick in LOST and LONG LOST (R145). -/
def Supervisor.tick (u : Supervisor) : Supervisor :=
  match u.highway with
  | .lost | .longLost => { u with lossDuration := min Config.unitsMax (u.lossDuration + 1) }
  | .waiting | .running => u

/-- A charge tick (R24, R25, R36, R78, R137, R145): the booths, then the flash step and the age step it marks. -/
def State.tick (s : State) : State :=
  let n := (s.tickCount + 1) % Config.ticksPerAgeStep
  let s := { s with divider := 0, tickCount := n, sup := s.sup.tick }
  let s := s.forAll State.tickBooth
  let s := if n % Config.ticksPerFlashStep = 0 then s.toggleFlash else s
  if n = 0 then s.ageEntries else s

/-- CHARGE_TICK (R36). -/
def execChargeTick (s : State) : Host.Outcome State Fault Refusal := .next (s.live State.tick)

/-- GRACE_EXPIRED (R13): the tick's last move of the countdown of a booth in GRACE. Elsewhere nothing expires. -/
def execGraceExpired (p : Position) (s : State) : Host.Outcome State Fault Refusal :=
  .next (s.live fun s =>
    if (s.booth p).state = .grace ∧ (s.booth p).grace ≤ 1 then s.countGrace p else s)

/-- The clear-down timer stands at the last tick of ASSERT (R16). -/
def ClearDown.assertEnding : ClearDown → Bool
  | .assert n => n ≤ 1
  | .gap _ => false

/-- The clear-down timer stands at the last tick of GAP (R16). -/
def ClearDown.gapEnding : ClearDown → Bool
  | .assert _ => false
  | .gap n => n ≤ 1

/-- CLEAR_DOWN_ASSERT_END (R16): the tick's move of a timer at the last tick of ASSERT. -/
def execClearDownAssertEnd (p : Position) (s : State) : Host.Outcome State Fault Refusal :=
  .next (s.live fun s => if (s.booth p).timer.any ClearDown.assertEnding then s.moveTimer p else s)

/-- CLEAR_DOWN_GAP_END (R16): the tick's move of a timer at the last tick of GAP. -/
def execClearDownGapEnd (p : Position) (s : State) : Host.Outcome State Fault Refusal :=
  .next (s.live fun s => if (s.booth p).timer.any ClearDown.gapEnding then s.moveTimer p else s)

/-- FLASH_STEP (R137). -/
def execFlashStep (s : State) : Host.Outcome State Fault Refusal := .next (s.live State.toggleFlash)

/-- AGE_STEP (R78, R79). -/
def execAgeStep (s : State) : Host.Outcome State Fault Refusal := .next (s.live State.ageEntries)

/-- ARREARS_EXPIRY (R79): the age step at one entry, where it takes the age to the arrears retention. -/
def execArrearsExpiry (serial : BitVec 32) (s : State) : Host.Outcome State Fault Refusal :=
  .next (s.live fun s =>
    match findEntry s.arrears serial.toNat with
    | some e => if s.settings.retention ≤ e.age + 1 then s.expire e else s
    | none => s)

end Sys2Proof.Machine
end

