-- ==== Sys2Proof/Machine/Formats.lean ====
section
/-! DEFINITION. The bytes the part emits: slots, upstream header, report records and the trailer (spec/12). -/

namespace Sys2Proof.Machine

/-- The low byte of a number. -/
def lowByte (n : Nat) : Byte := BitVec.ofNat 8 n

/-- A two-byte field, most significant byte first (R173). -/
def twoBytes (n : Nat) : List Byte := [lowByte (n / 256), lowByte n]

/-- A four-byte field, most significant byte first (R173). -/
def fourBytes (n : Nat) : List Byte := twoBytes (n / 65536) ++ twoBytes n

/-- Idle fill is the byte FFh (R173). -/
def idleFill : Byte := 0xFF

/-- Cause codes of the REFUSED reply and the REFUSED WRITE report (R175). -/
def RefuseCause.code : RefuseCause → Nat
  | .issuer => 1
  | .free => 2
  | .unknown => 3
  | .raise => 4
  | .excess => 5
  | .complement => 6
  | .engaged => 7
  | .kind => 8

/-- Cause codes of UNITS DROPPED (12.5). -/
def DropCause.code : DropCause → Nat
  | .noSerial => 1
  | .saturated => 2
  | .unresolved => 3

/-- Cause codes of CLEAR-DOWN (12.5). -/
def ClearCause.code : ClearCause → Nat
  | .tariffUnset => 1
  | .graceExpired => 2
  | .saturated => 3
  | .highwayLost => 4
  | .readerFault => 5

/-- The downstream slot of an own request (R97, R119, R175). Its ignored fields are sent as 0 (log entry 23). -/
def OwnRequest.bytes : OwnRequest → SlotBytes
  | .read a => requestBytes 1 a 0
  | .write v => requestBytes 2 4 (BitVec.ofNat 16 v ++ (0 : Word))

/-- The upstream slot the row controller receives (R121 to R123, R175): a passed reply keeps its bytes, and the last byte
of a reply that the part substitutes is 00h. HELD carries no fields, and R122 and R175 give no level for the bits of its
word address and value: they are sent as 0 (DESIGN CHOICE, log entry 23). -/
def UpReply.bytes : UpReply → SlotBytes
  | .passed b => b
  | .refused cause v => replyBytes 0x20 (BitVec.ofNat 4 cause.code ++ BitVec.ofNat 16 v ++ (0 : Byte))
  | .held => replyBytes 0x21 0
  | .debited v => replyBytes 0x22 ((4 : WordAddr) ++ BitVec.ofNat 16 v ++ (0 : Byte))

/-- The upstream header: the frame number, then idle fill (R91, R174). -/
def upHeaderBytes (frame : Byte) : List Byte := frame :: List.replicate 9 idleFill

/-- The position field of the short layout: FFh for none (R177). -/
def positionByte (p : Option Position) : Byte := match p with | some p => lowByte p.val | none => 0xFF

/-- The short layout (12.5). -/
def shortRecord (code : Nat) (r : Report) : List Byte :=
  [lowByte code, positionByte r.position] ++ twoBytes r.units ++ twoBytes r.aux ++ [0, 0]

/-- The serial layout (12.5, R177): bit 7 of byte 7 says that the serial is present. Bits 5 and 6, of which 12.5 says
nothing, are sent as 0 (DESIGN CHOICE, log entry 28). -/
def serialRecord (code : Nat) (r : Report) : List Byte :=
  [lowByte code] ++ fourBytes (r.serial.getD 0) ++ twoBytes r.units ++
    [lowByte ((if r.serial.isSome then 0x80 else 0) + (match r.position with | some p => p.val | none => 0))]

/-- The entry layout (12.5, R177): the code gives the position, and an aux of 255 or more is carried as FFh. -/
def entryRecord (base : Nat) (r : Report) : List Byte :=
  [lowByte (base + (match r.position with | some p => p.val | none => 0))] ++ fourBytes (r.serial.getD 0) ++
    twoBytes r.units ++ [lowByte (min r.aux 255)]

/-- The eight bytes of a report record (12.5, R177). -/
def Report.bytes (r : Report) : List Byte :=
  match r.kind with
  | .callEnd => serialRecord (0x10 + r.aux) r
  | .arrearsOpened => serialRecord (0x20 + r.aux) r
  | .refusedWrite c => shortRecord (0x30 + c.code) r
  | .unitsDropped c => shortRecord (0x40 + c.code) r
  | .clearDown c => shortRecord (0x50 + c.code) r
  | .readerFault => shortRecord 0x60 r
  | .lockExpired => shortRecord 0x61 r
  | .highwayLost => shortRecord 0x62 r
  | .highwayRestored => shortRecord 0x63 r
  | .warmRestart =>
    [0x64, positionByte r.position] ++ twoBytes r.units ++ twoBytes r.aux ++ twoBytes (r.units / 65536)
  | .arrearsCollected => entryRecord 0x80 r
  | .arrearsDropped .evicted => entryRecord 0xA0 r
  | .arrearsDropped .expired => entryRecord 0xC0 r

/-- The EMPTY record (R103, 12.5). -/
def emptyRecord : List Byte := List.replicate 8 0

/-- The ten bytes of an upstream trailer (R103, R174). -/
def trailerBytes (record : Option Report) (lost level : Nat) : List Byte :=
  (match record with | some r => r.bytes | none => emptyRecord) ++ [lowByte lost, lowByte level]

end Sys2Proof.Machine
end

