-- ==== Sys2Proof/Machine/Replies.lean ====
section
/-! DEFINITION. Family: reply arrivals from the readers (spec/06, 6.5 and 6.6), one shared sequence of six steps (R120). -/

namespace Sys2Proof.Machine

/-- Byte times after the frame start at which reply `p` has been received whole (R91). -/
def replyIn (p : Position) : Nat := 27 + 5 * p.val

/-- The reply is ERROR, or a code taken as ERROR (R98). -/
def Reply.isError : Reply → Bool
  | .error | .unknown => true
  | _ => false

/-- Step 1, card presence (R2, R9, R19, R20, R120). An ABSENT also ends an in-flight record (R126). -/
def State.presenceStep (s : State) (p : Position) (r : Reply) : State :=
  let b := s.booth p
  if b.state = .fault then
    if r = .absent then s.leaveFault p else s
  else if r = .absent then
    match b.present with
    | .yes => s.removeCard p none
    | .unknown =>
      let s := (s.clearRecord p).onBooth p fun b => { b with present := .no }
      if b.foundUp then s.startResumed p else s
    | .no => s.clearRecord p
  else if b.present = .yes then s
  else s.insertCard p

/-- The part used the slot for an own request (R53, R105). -/
def ownSlot (sent : Option SlotRecord) : Bool := sent.any fun r => r.origin = .own

/-- The reply is the WRITTEN that settles or clears the held record (R126). -/
def settles (held : Option InFlight) (r : Reply) : Bool :=
  match held, r with
  | some x, .written a _ => x.word = a
  | _, _ => false

/-- Step 2, the in-flight record: settled, kept or left (R126, R127), or opened by an ACCEPTED (R124). -/
def State.recordStep (s : State) (p : Position) (sent : Option SlotRecord) (r : Reply) : State :=
  match (s.slot p).inFlight with
  | some x =>
    match r with
    | .written a v =>
      if x.word = a then (if a = 4 then s.settleRecord p x v.toNat (ownSlot sent) else s.clearRecord p) else s.notPerformed p x
    | .ready | .data _ _ | .error | .unknown => s.notPerformed p x
    | .busy | .accepted _ | .absent => s
  | none =>
    match r, sent with
    | .accepted _, some q =>
      match q.sent with
      | .write a v => s.openRecord p q a v
      | .null | .read _ => s
    | _, _ => s

/-- Step 3, the word the reply carries (R2, R61), `own` saying that the part used the slot. In FAULT no word acts. -/
def State.wordStep (s : State) (p : Position) (own : Bool) (r : Reply) : State :=
  if (s.booth p).state = .fault then s
  else match r with
    | .data a v =>
      if a = 0 then s.readHalf p true v.toNat
      else if a = 1 then s.readHalf p false v.toNat
      else if a = 4 then s.learnBalance p v.toNat own
      else if a = 6 then s.onBooth p fun b => { b with band := some (s.bandOf v) }
      else s
    | .written a v => if a = 4 then s.learnBalance p v.toNat own else s
    | _ => s

/-- An ERROR reply to a held own request counts one try, and the third declares a reader fault (R54, R150). -/
def State.countTry (s : State) (p : Position) (h : Held) : State :=
  let s := s.onSlot p fun c => { c with held := some { h with tries := min Config.ownTries (h.tries + 1) } }
  if Config.ownTries ≤ h.tries + 1 then s.declareFault p else s

/-- Step 4, the held own request of a slot the part used (R53, R54). -/
def State.heldStep (s : State) (p : Position) (own : Bool) (r : Reply) : State :=
  if own then
    match (s.slot p).held with
    | none => s
    | some h =>
      if r.isError then s.countTry p h
      else match h.request, r with
        | .read a, .data a' _ => if a = a' then s.dropHeld p else s
        | _, _ => s
  else s

/-- Step 5, the lock: closed by the WRITTEN that ends a record of origin ROW (R118). -/
def State.lockStep (s : State) (p : Position) (held : Option InFlight) (r : Reply) : State :=
  if settles held r ∧ held.map InFlight.origin = some .row then s.onSlot p fun c => { c with lock := 0 } else s

/-- The value a WRITTEN shows as DEBITED: it settles a record of word 4 and origin OWN (R60, R123). -/
def debitedValue (held : Option InFlight) (r : Reply) : Option Nat :=
  match held, r with
  | some x, .written a v => if x.word = a ∧ a = 4 ∧ x.origin = .own then some v.toNat else none
  | _, _ => none

/-- What the row controller is shown where no R121 or R122 replaces the reply (R123); `bytes` are the reply's own. -/
def shown (held : Option InFlight) (r : Reply) (bytes : SlotBytes) : UpReply :=
  match debitedValue held r with
  | some v => .debited v
  | none => .passed bytes

/-- Step 6, the reply sent to the row controller (R121 to R123). -/
def upstream (sent : Option SlotRecord) (held : Option InFlight) (r : Reply) (bytes : SlotBytes) : UpReply :=
  match sent with
  | none => shown held r bytes
  | some q =>
    match q.treatment, q.sent, r with
    | .killed cause v, _, _ => .refused cause v
    | .inserted _, .read _, _ => .held
    | .inserted _, .write _ _, .accepted _ => .held
    | _, _, _ => shown held r bytes

/-- Step 6: the upstream slot is filled and the slot record cleared (R105, R120). -/
def State.answer (s : State) (p : Position) (u : UpReply) : State :=
  let s := s.onSlot p fun c => { c with record := none }
  { s with port := { s.port with upSlots := s.port.upSlots.set p.val (some u) p.isLt } }

/-- Steps 1 to 5 of a reply arrival, given what was sent in the slot (R120). -/
def State.takeReply (s : State) (p : Position) (sent : Option SlotRecord) (r : Reply) : State :=
  let s1 := s.presenceStep p r
  let held := (s1.slot p).inFlight
  let s2 := s1.recordStep p sent r
  let s3 := if settles held r then s2 else s2.wordStep p (ownSlot sent) r
  (s3.heldStep p (ownSlot sent) r).lockStep p held r

/-- A reply arrival (R120), `bytes` being the slot as it is re-emitted where it is passed: each step on the state the
step before left. -/
def State.reply (s : State) (p : Position) (r : Reply) (bytes : SlotBytes) : State :=
  s.inFrame fun s =>
    let s := s.reach (replyIn p)
    let sent := (s.slot p).record
    let held := ((s.presenceStep p r).slot p).inFlight
    (s.takeReply p sent r).answer p (upstream sent held r bytes)

/-- ABSENT (R2, R9, R19). -/
def execAbsent (p : Position) (rest : BitVec 28) (s : State) : Host.Outcome State Fault Refusal :=
  .next (s.reply p .absent (replyBytes 0x10 rest))

/-- READY (R2, R95). -/
def execReady (p : Position) (rest : BitVec 28) (s : State) : Host.Outcome State Fault Refusal :=
  .next (s.reply p .ready (replyBytes 0x11 rest))

/-- DATA (R2, R7, R8, R95). -/
def execData (p : Position) (a : WordAddr) (v : Word) (last : Byte) (s : State) : Host.Outcome State Fault Refusal :=
  .next (s.reply p (.data a v) (replyBytes 0x12 (a ++ v ++ last)))

/-- ACCEPTED (R58, R59, R124, R127). -/
def execAccepted (p : Position) (a : WordAddr) (rest : BitVec 24) (s : State) : Host.Outcome State Fault Refusal :=
  .next (s.reply p (.accepted a) (replyBytes 0x13 (a ++ rest)))

/-- BUSY (R53, R126). -/
def execBusy (p : Position) (rest : BitVec 28) (s : State) : Host.Outcome State Fault Refusal :=
  .next (s.reply p .busy (replyBytes 0x14 rest))

/-- WRITTEN (R60, R61, R126, R127). -/
def execWritten (p : Position) (a : WordAddr) (v : Word) (last : Byte) (s : State) : Host.Outcome State Fault Refusal :=
  .next (s.reply p (.written a v) (replyBytes 0x15 (a ++ v ++ last)))

/-- ERROR (R54, R95, R150). -/
def execError (p : Position) (rest : BitVec 28) (s : State) : Host.Outcome State Fault Refusal :=
  .next (s.reply p .error (replyBytes 0x16 rest))

/-- A status code that is none of the reader statuses (R98): ERROR for the part's state, re-emitted as received. -/
def execUnknownStatus (p : Position) (bytes : SlotBytes) (s : State) : Host.Outcome State Fault Refusal :=
  .next (s.reply p .unknown bytes)

end Sys2Proof.Machine
end

