-- ==== Sys2Proof/Machine/Requests.lean ====
section
/-! DEFINITION. Family: request arrivals from the row controller (spec/06, 6.2 to 6.4): NULL, READ, WRITE, PROTECTED WRITE, LOCKED READ, UNLOCK and unknown kinds. -/

namespace Sys2Proof.Machine

/-- Byte times after the frame start at which request `p` has been received whole (R90). -/
def requestIn (p : Position) : Nat := 15 + 5 * p.val

/-- The request decided at the arrival of slot `p` (R105): the slot record is set, and the slot's five bytes leave
towards the reader. -/
def State.send (s : State) (p : Position) (r : SlotRecord) (bytes : SlotBytes) : State :=
  let s := s.onSlot p fun c => { c with record := some r }
  { s with port := { s.port with downSlots := s.port.downSlots.set p.val (some bytes) p.isLt } }

/-- A request arrival: the frame has reached its byte time, then the request acts (R90, R92). -/
def State.arrive (s : State) (p : Position) (f : State → State) : State := s.inFrame fun s => f (s.reach (requestIn p))

/-- The row controller's slot carries NULL with this treatment (R105): word, value and complement sent as 0 (R175). -/
def State.sendNull (s : State) (p : Position) (t : Treatment) : State :=
  s.send p { origin := .row, sent := .null, treatment := t } (requestBytes 0 0 0)

/-- The row controller's slot carries READ with this treatment (R105), its ignored fields re-emitted as received (R85). -/
def State.sendRead (s : State) (p : Position) (a : WordAddr) (rest : BitVec 32) (t : Treatment) : State :=
  s.send p { origin := .row, sent := .read a, treatment := t } (requestBytes 1 a rest)

/-- A request is killed (R112): NULL to the reader, cause and attempted value kept, a REFUSED WRITE report. -/
def State.kill (s : State) (p : Position) (cause : RefuseCause) (attempted : Nat) : State :=
  (s.sendNull p (.killed cause attempted)).place (.refusedWrite p cause attempted)

/-- An own request is sent in a NULL slot (R119). It is held from here, `first` saying that this slot sends it first. -/
def State.insert (s : State) (p : Position) (q : OwnRequest) (first : Bool) : State :=
  let s := if first then s.onSlot p fun c => { c with held := some { request := q, tries := 0 } } else s
  s.send p { origin := .own, sent := q.sent, treatment := .inserted first } q.bytes

/-- The Debit Unit's decision on a row-controller NULL (R46, R48, R106, R119). -/
def State.decideNull (s : State) (p : Position) : State :=
  if s.eligible p then
    match (s.slot p).held with
    | some h => s.insert p h.request false
    | none =>
      match s.need p with
      | some q => s.insert p q true
      | none => s.sendNull p .passed
  else s.sendNull p .passed

/-- The checks of a plain balance write (R56, R109): the first that fails gives the cause. -/
def State.vetBalance (s : State) (p : Position) (v : Nat) : Option RefuseCause :=
  let b := s.booth p
  if b.mode = .free then some .free
  else match b.known with
    | none => some .unknown
    | some n =>
      if n < v then some .raise
      else if b.owed + s.settings.rowAllowance < n - v then some .excess
      else none

/-- The check of a plain WRITE by its word (R108). -/
def State.vetWrite (s : State) (p : Position) (a : WordAddr) (v : Nat) : Option RefuseCause :=
  if a.toNat < 4 then some .issuer else if a = 4 then s.vetBalance p v else none

/-- The booth is engaged: a call, owed units or a pending resolution (R110). -/
def Booth.engaged (b : Booth) : Bool :=
  b.state = .call ∨ b.state = .grace ∨ b.state = .clearing ∨ b.state = .opened ∨ 0 < b.owed ∨ b.pendingRes ≠ none

/-- The checks of a PROTECTED WRITE in order (R110). -/
def State.vetProtected (s : State) (p : Position) (a : WordAddr) (v c : Nat) : Option RefuseCause :=
  if c ≠ 65535 - v then some .complement
  else if a.toNat < 4 then some .issuer
  else if a = 4 ∧ (s.booth p).state = .fault then some .unknown
  else if a = 4 ∧ (s.booth p).engaged then some .engaged
  else none

/-- A write that passes vetting is sent with the complement `c`, and one to word 6 sets the band at its arrival (R111). -/
def State.passWrite (s : State) (p : Position) (a : WordAddr) (v c : Word) (t : Treatment) : State :=
  let s := if a = 6 then s.onBooth p fun b => { b with band := some (s.bandOf v) } else s
  s.send p { origin := .row, sent := .write a v.toNat, treatment := t } (requestBytes 2 a (v ++ c))

/-- A row-controller write is suppressed while a write is in flight (R107), else killed or passed by its check. -/
def State.vetted (s : State) (p : Position) (check : Option RefuseCause) (a : WordAddr) (v c : Word) (t : Treatment) :
    State :=
  if (s.slot p).inFlight.isSome then s.sendNull p .suppressed
  else match check with
    | some cause => s.kill p cause v.toNat
    | none => s.passWrite p a v c t

/-- NULL (R106). -/
def execNull (p : Position) (s : State) : Host.Outcome State Fault Refusal :=
  .next (s.arrive p fun s => s.decideNull p)

/-- READ word `a` (R106): passed in every mode and state, its ignored fields as received. -/
def execRead (p : Position) (a : WordAddr) (rest : BitVec 32) (s : State) : Host.Outcome State Fault Refusal :=
  .next (s.arrive p fun s => s.sendRead p a rest .passed)

/-- WRITE word `a`, value `v` (R107, R108, R109), its ignored complement `c` as received. -/
def execWrite (p : Position) (a : WordAddr) (v c : Word) (s : State) : Host.Outcome State Fault Refusal :=
  .next (s.arrive p fun s => s.vetted p (s.vetWrite p a v.toNat) a v c .passed)

/-- PROTECTED WRITE word `a`, value `v`, complement `c` (R107, R110): sent as WRITE with the complement 0000h (R175). -/
def execProtectedWrite (p : Position) (a : WordAddr) (v c : Word) (s : State) : Host.Outcome State Fault Refusal :=
  .next (s.arrive p fun s => s.vetted p (s.vetProtected p a v.toNat c.toNat) a v 0 .converted)

/-- LOCKED READ word `a` (R115): sent as READ, and the lock is set to the lock limit. -/
def execLockedRead (p : Position) (a : WordAddr) (rest : BitVec 32) (s : State) : Host.Outcome State Fault Refusal :=
  .next (s.arrive p fun s => (s.onSlot p fun c => { c with lock := s.settings.lockLimit }).sendRead p a rest .converted)

/-- UNLOCK (R116): sent as NULL, and the lock becomes 0 with no report. -/
def execUnlock (p : Position) (s : State) : Host.Outcome State Fault Refusal :=
  .next (s.arrive p fun s => (s.onSlot p fun c => { c with lock := 0 }).sendNull p .converted)

/-- A kind code outside the six (R113): killed with cause KIND and the code, whatever the state. -/
def execUnknownKind (p : Position) (code : BitVec 4) (s : State) : Host.Outcome State Fault Refusal :=
  .next (s.arrive p fun s => s.kill p .kind code.toNat)

end Sys2Proof.Machine
end

