-- ==== Sys2Proof/Machine/Tables.lean ====
section
/-! DEFINITION. Family: the Table Loader (spec/09): minute of day, table words and the RESTART flag. -/

namespace Sys2Proof.Machine

/-- A header's minute field (R26): 0 to 1,439 becomes the minute of day, larger values are ignored. -/
def State.takeMinute (s : State) (minute : Word) : State :=
  if minute.toNat < Config.minutesPerDay then { s with minute := some minute.toNat } else s

/-- The RESTART flag acts (R161, R170): the queue is emptied, a record that a trailer is sending included, the lost count
is 0, every lock closes with no report. -/
def State.restartReports (s : State) : State :=
  ({ s with reports := [], lost := 0, port := { s.port with recordHeld := false } }).forAll fun p s =>
    s.onSlot p fun c => { c with lock := 0 }

/-- A TARIFF word (R155, R156): a selecting field out of range makes it ignored. -/
def State.takeTariff (s : State) (band period charge : Byte) (rate : Word) : State :=
  match selectFin 16 band.toNat, selectFin 4 period.toNat with
  | some b, some q =>
    { s with tariff := s.tariff.set b.val (s.tariff[b].set q.val (some (tariffEntry charge rate)) q.isLt) b.isLt }
  | _, _ => s

/-- A SCHEDULE word (R155, R157). -/
def State.takeSchedule (s : State) (slot : Byte) (minute : Word) (period : Byte) : State :=
  match selectFin 8 slot.toNat with
  | some n => { s with schedule := s.schedule.set n.val (switchPoint minute period) n.isLt }
  | none => s

/-- A SETTING word (R155, R158). -/
def State.takeSetting (s : State) (number : Byte) (value : Word) : State :=
  { s with settings := s.settings.set number value }

/-- A POSITION word (R4, R155, R159). -/
def State.takePosition (s : State) (number mode : Byte) : State :=
  match selectFin 24 number.toNat with
  | some p => s.onBooth p fun b => b.deliverMode (modeOf mode)
  | none => s

/-- The table word of a header (R154): taken by its kind, ignored with a kind code that is none of the four. -/
def State.takeTableWord (s : State) (table : TableBytes) : State :=
  match decodeTable table with
  | some (.tariff band period charge rate) => s.takeTariff band period charge rate
  | some (.schedule slot minute period) => s.takeSchedule slot minute period
  | some (.setting number value) => s.takeSetting number value
  | some (.position number mode) => s.takePosition number mode
  | _ => s

/-- RESTART (R161). -/
def execRestart (s : State) : Host.Outcome State Fault Refusal := .next (s.live State.restartReports)

/-- TARIFF (R156). -/
def execTariff (band period charge : Byte) (rate : Word) (s : State) : Host.Outcome State Fault Refusal :=
  .next (s.live fun s => s.takeTariff band period charge rate)

/-- SCHEDULE (R157). -/
def execSchedule (slot : Byte) (minute : Word) (period : Byte) (s : State) : Host.Outcome State Fault Refusal :=
  .next (s.live fun s => s.takeSchedule slot minute period)

/-- SETTING (R158). -/
def execSetting (number : Byte) (value : Word) (s : State) : Host.Outcome State Fault Refusal :=
  .next (s.live fun s => s.takeSetting number value)

/-- POSITION (R159). -/
def execPosition (number mode : Byte) (s : State) : Host.Outcome State Fault Refusal :=
  .next (s.live fun s => s.takePosition number mode)

end Sys2Proof.Machine
end

