-- ==== Sys2Proof/Machine/Highway.lean ====
section
/-! DEFINITION. Family: frames and the Highway Supervisor (spec/05, spec/08): frame start and cut, header arrival, frame end, trailer, loss and restoration, write timeouts, lock expiry. -/

namespace Sys2Proof.Machine

/-! ## Frames cut short (R93, R94) -/

/-- Byte times after the frame start at which request `p` has been emitted whole on downstream-out (R90). -/
def requestOut (p : Position) : Nat := 17 + 5 * p.val

/-- A slot left without its reply when its frame is cut at byte time `t` (R93, R94): a request not emitted whole counts
as not sent, and a write emitted whole is counted as accepted. -/
def State.cutSlot (s : State) (t : Nat) (p : Position) : State :=
  match (s.slot p).record with
  | none => s
  | some r =>
    let s := s.onSlot p fun c => { c with record := none }
    if requestOut p ≤ t then
      match r.sent with
      | .write a v => s.openRecord p r a v
      | .null | .read _ => s
    else if r.treatment = .inserted true then s.dropHeld p
    else s

/-- A frame in progress is cut after `cut` byte times, or after as many as its events show to have passed (R93). -/
def State.cutFrame (s : State) (cut : Nat) : State :=
  if s.port.inProgress then
    let t := max cut s.port.byteTime
    let s := s.forAll fun p s => s.cutSlot t p
    { s with port := { s.port with inProgress := false } }
  else s

/-- The port's outputs at idle fill with no trailer due (R89, R93), the frame number last seen apart. -/
def Port.idle (port : Port) : Port := { Port.reset with frameNumber := port.frameNumber }

/-- A frame begins (R89, R92): the outputs start afresh, the frame sync is re-emitted at the strap's active level (R87),
and the frame timer restarts from 0 (R142). -/
def State.beginFrame (s : State) : State :=
  { s with port := { s.port.idle with inProgress := true, trailerDue := true, downSync := s.strap },
           sup := { s.sup with frameTimer := some 0 } }

/-! ## Loss (R144) -/

/-- Step 2 of R144: the in-flight record is cleared, and a record of word 4 with k above 0 becomes the pending
resolution. -/
def State.loseRecord (s : State) (p : Position) : State :=
  match (s.slot p).inFlight with
  | none => s
  | some r =>
    let s := s.clearRecord p
    if r.word = 4 ∧ 0 < r.k then s.onBooth p fun b => { b with pendingRes := r.pair } else s

/-- Step 5 of R144: the serial becomes the expected serial, and the card is no longer known. -/
def Booth.loseCard (b : Booth) : Booth :=
  if b.present = .yes then
    { b with expected := (match b.serial with | some n => some n | none => b.expected), serialHigh := none,
             serialLow := none, known := none }
  else b

/-- Steps 2 to 5 of R144 at one position. -/
def State.losePosition (p : Position) (s : State) : State :=
  ((s.loseRecord p).onSlot p fun c => { c with held := none, lock := 0 }).onBooth p Booth.loseCard

/-- The port at the entry to LOST: idle fill where a frame was in progress (R93). A frame that is already complete is
not cut, and what is left of its trailer follows (log entry 10). -/
def Port.lose (port : Port) : Port := if port.inProgress then port.idle else port

/-- Entry to LOST (R144). -/
def State.enterLost (s : State) (cut : Nat) : State :=
  let port := s.port.lose
  let s := (s.cutFrame cut).forAll State.losePosition
  let s := s.place (.ofRow .highwayLost 0 0)
  { s with port := port, sup := { s.sup with highway := .lost, lossTimer := some 0, lossDuration := 0 } }

/-- The frame timer expires and holds its limit; in RUNNING the highway is lost (R142). -/
def State.expireFrameTimer (s : State) (cut : Nat) : State :=
  let s := { s with sup := { s.sup with frameTimer := some Config.frameTimeoutPeriods } }
  if s.sup.highway = .running then s.enterLost cut else s

/-- The states that LONG LOST clears down (R146). -/
def Booth.longLostClears (b : Booth) : Bool := b.state = .call ∨ b.state = .grace ∨ b.state = .opened

/-- Entry to LONG LOST (R146). -/
def State.enterLongLost (s : State) : State :=
  ({ s with sup := { s.sup with highway := .longLost, lossTimer := none } }).forAll fun p s =>
    if (s.booth p).longLostClears then s.enterClearing p .highwayLost else s

/-! ## Frame end -/

/-- The lock is lowered by 1 at a frame end; one that reaches 0 expires with a report (R117). -/
def State.lowerLock (p : Position) (s : State) : State :=
  let n := (s.slot p).lock
  if n = 0 then s
  else
    let s := s.onSlot p fun c => { c with lock := n - 1 }
    if n = 1 then s.place (.atPosition .lockExpired p) else s

/-- The frames since ACCEPTED rise by 1 at a frame end and stop at 16 (R125). A slot record is held for one frame at
most (R105). -/
def State.countFrame (p : Position) (s : State) : State :=
  s.onSlot p fun c =>
    { c with inFlight := c.inFlight.map fun r => { r with frames := min Config.writeTimeoutFrames (r.frames + 1) },
             record := none }

/-- A record that has reached 16 frames declares a reader fault (R149). -/
def State.timeOut (p : Position) (s : State) : State :=
  if (s.slot p).inFlight.any fun r => Config.writeTimeoutFrames ≤ r.frames then s.declareFault p else s

/-- The frame timer stands expired (R142). -/
def Supervisor.expired (u : Supervisor) : Bool := u.frameTimer = some Config.frameTimeoutPeriods

/-- A complete frame moves the supervisor to RUNNING: from WAITING with no report (R143), from LOST or LONG LOST with
HIGHWAY RESTORED (R147). With the frame timer expired the highway is lost at once, after all else (R142). -/
def State.completeFrame (s : State) : State :=
  match s.sup.highway with
  | .running => s
  | .waiting =>
    let s := { s with sup := { s.sup with highway := .running } }
    if s.sup.expired then s.enterLost 0 else s
  | .lost | .longLost =>
    let s := s.place (.ofRow .highwayRestored 0 s.sup.lossDuration)
    let s := { s with sup := { s.sup with highway := .running, lossTimer := none } }
    if s.sup.expired then s.enterLost 0 else s

/-- FRAME_START (R87, R89, R92, R93, R142): a frame in progress is cut, and a frame begins. -/
def execFrameStart (cut : Nat) (s : State) : Host.Outcome State Fault Refusal :=
  .next (s.live fun s => (s.cutFrame cut).beginFrame)

/-- HEADER_ARRIVAL (R26, R96, R154, R161, R174): frame number, minute of day, RESTART flag and table word are taken. -/
def execHeaderArrival (frame : Byte) (minute : Word) (flags : Byte) (table : TableBytes) (s : State) :
    Host.Outcome State Fault Refusal :=
  .next (s.inFrame fun s =>
    let s := s.reach 10
    let s := { s with port := { s.port with frameNumber := some frame, upHeader := some frame,
                                            downHeader := some (headerBytes frame minute flags table) } }
    let s := s.takeMinute minute
    let s := if restartFlag flags then s.restartReports else s
    if tableWordPresent flags then s.takeTableWord table else s)

/-- FRAME_END (R90, R92, R117, R125, R143, R147, R149, R174): the frame's downstream trailer has been re-emitted as
received, the frame is complete, and its counts advance. -/
def execFrameEnd (trailer : TenBytes) (s : State) : Host.Outcome State Fault Refusal :=
  .next (s.inFrame fun s =>
    let s := s.reach 152
    let s := { s with port := { s.port with inProgress := false, downTrailer := some trailer } }
    (((s.forAll State.lowerLock).forAll State.countFrame).forAll State.timeOut).completeFrame)

/-- LOCK_EXPIRED (R117): the frame-end step of a lock that stands at 1. Elsewhere no lock expires. -/
def execLockExpired (p : Position) (s : State) : Host.Outcome State Fault Refusal :=
  .next (s.live fun s => if (s.slot p).lock = 1 then s.lowerLock p else s)

/-- WRITE_TIMEOUT (R149): the frame-end step of a record that reaches 16 frames. Elsewhere no write times out. -/
def execWriteTimeout (p : Position) (s : State) : Host.Outcome State Fault Refusal :=
  .next (s.live fun s =>
    if (s.slot p).inFlight.any fun r => Config.writeTimeoutFrames ≤ r.frames + 1 then s.declareFault p else s)

/-- The record field begins (R103): the oldest record is taken, or EMPTY. -/
def State.beginTrailer (s : State) : State :=
  match s.port.trailerRecord with
  | some _ => s
  | none =>
    { s with port := { s.port with trailerRecord := some s.reports.head?, recordHeld := s.reports.head?.isSome } }

/-- The record taken leaves the queue once the record field has been emitted whole (R103). -/
def State.giveUpRecord (s : State) (sent : Nat) : State :=
  if Config.recordLength ≤ sent ∧ s.port.recordHeld then
    { s with reports := s.reports.tail, port := { s.port with recordHeld := false } }
  else s

/-- The trailer's first `sent` bytes have left: those not yet emitted follow, the lost count and the level as they stand
now (R103). -/
def State.emitTrailer (s : State) (sent : Nat) : State :=
  let bytes := trailerBytes (s.port.trailerRecord.getD none) s.lost s.reports.length
  let emitted := s.port.upTrailer ++ (bytes.take sent).drop s.port.upTrailer.length
  { s with port := { s.port with upTrailer := emitted, trailerDue := emitted.length < Config.trailerLength } }

/-- The byte times at which the trailer stands on upstream-out are 144 to 153 (R91, R103). -/
def trailerOut (sent : Nat) : Nat := 144 + min Config.trailerLength sent

/-- TRAILER_RECORD (R103, R167): the oldest record, or EMPTY, with the lost count and the queue level, as far as the first
`sent` bytes. -/
def execTrailerRecord (sent : Nat) (s : State) : Host.Outcome State Fault Refusal :=
  .next (s.live fun s =>
    if s.port.trailerDue then (((s.reach (trailerOut sent)).beginTrailer).giveUpRecord sent).emitTrailer sent else s)

/-- FRAME_TIMEOUT (R142, R144). A stopped frame timer does not expire. -/
def execFrameTimeout (cut : Nat) (s : State) : Host.Outcome State Fault Refusal :=
  .next (s.live fun s => if s.sup.frameTimer = none then s else s.expireFrameTimer cut)

/-- LONG_LOST (R146): the loss timer runs only in LOST. -/
def execLongLost (s : State) : Host.Outcome State Fault Refusal :=
  .next (s.live fun s => if s.sup.highway = .lost then s.enterLongLost else s)

end Sys2Proof.Machine
end

