-- ==== Sys2Proof/Machine/Scan.lean ====
section
/-! DEFINITION. Family: the Line Scanner (spec/07): scan steps, sampling and debounce, line events, the drive segment. -/

namespace Sys2Proof.Machine

/-- The events a completed run hands on (R133). -/
inductive LineEvent where
  | first (high : Bool)
  | rise
  | fall
  deriving DecidableEq, Repr

/-- The event of a run completed at `level` from a debounced state (R133). -/
def lineEvent (before : Option Bool) (level : Bool) : LineEvent :=
  match before with
  | none => .first level
  | some _ => if level then .rise else .fall

/-- One sample of a signal acts on its record (R132), with the debounce count `d`; a completed run hands on an event. -/
def Debounce.sample (d : Nat) (x : Debounce) (level : Bool) : Debounce × Option LineEvent :=
  if x.level = some level then ({ x with runCount := 0 }, none)
  else
    let count := if 0 < x.runCount ∧ level = x.runLevel then x.runCount + 1 else 1
    if d ≤ count then ({ level := some level, runLevel := level, runCount := 0 }, some (lineEvent x.level level))
    else ({ x with runLevel := level, runCount := count }, none)

/-- The debounce record of LOOP at a position. -/
def State.loop (s : State) (p : Position) : Debounce := s.scan.loop[p]

/-- The debounce record of ANSWER at a position. -/
def State.answerLine (s : State) (p : Position) : Debounce := s.scan.answer[p]

/-- The debounced LOOP is high; an unknown state is not high (R133). -/
def State.loopHigh (s : State) (p : Position) : Bool := (s.loop p).level = some true

/-- A LOOP event at a CHARGED booth (R20, R134). -/
def State.loopEvent (s : State) (p : Position) : LineEvent → State
  | .first high =>
    if (s.booth p).resumed = .waiting then (s.onBooth p fun b => { b with firstLoop := some high }).checkResume p else s
  | .rise => s
  | .fall => s.lineFall p

/-- An ANSWER event at a CHARGED booth, with the debounced LOOP as it stands (R20, R133, R134). -/
def State.answerEvent (s : State) (p : Position) : LineEvent → State
  | .first high =>
    if (s.booth p).resumed = .waiting then (s.onBooth p fun b => { b with firstAnswer := some high }).checkResume p else s
  | .rise => if s.loopHigh p then s.answerRise p else s
  | .fall => s.lineFall p

/-- An event is delivered at once, unless the booth is FREE (R5, R134, R135). -/
def State.deliver (s : State) (p : Position) (e : Option LineEvent) (act : State → LineEvent → State) : State :=
  match e with
  | none => s
  | some x => if (s.booth p).mode = .free then s else act s x

/-- A sample of LOOP at a position (R132 to R134). -/
def State.sampleLoop (s : State) (p : Position) (level : Bool) : State :=
  let x := (s.loop p).sample s.settings.debounceCount level
  ({ s with scan := { s.scan with loop := s.scan.loop.set p.val x.1 p.isLt } }).deliver p x.2 fun s e => s.loopEvent p e

/-- A sample of ANSWER at a position (R132 to R134). -/
def State.sampleAnswer (s : State) (p : Position) (level : Bool) : State :=
  let x := (s.answerLine p).sample s.settings.debounceCount level
  ({ s with scan := { s.scan with answer := s.scan.answer.set p.val x.1 p.isLt } }).deliver p x.2
    fun s e => s.answerEvent p e

/-- The samples of one booth: LOOP completes first, and only then ANSWER (R130, R133). -/
def State.sampleBooth (rows : Byte) (s : State) (p : Position) : State :=
  (s.sampleLoop p (rows.getLsbD (evenRow p))).sampleAnswer p (rows.getLsbD (oddRow p))

/-- The four positions of a column (R128). -/
def columnPositions (column : Fin 6) : List Position := ([0, 1, 2, 3] : List (Fin 4)).map (positionAt column)

/-- The levels read on the eight rows: a row that no line interface drives is held low by its pull (R130). -/
def rowsRead (x : RowInputs) : Byte := x.driven &&& x.level

/-- The sense segment has run its whole length, and its sample is taken (R129, R130). -/
def Scanner.endSense (x : Scanner) : Scanner :=
  { x with sampled := true, elapsed := x.stepSetting * Config.segmentPeriods }

/-- The sample at the end of a sense segment (R130): each row for its signal. -/
def State.sampleColumn (s : State) (rows : RowInputs) : State :=
  (columnPositions s.scan.column).foldl (State.sampleBooth (rowsRead rows)) { s with scan := s.scan.endSense }

/-- A sense segment ends: where no command has brought its sample, it is taken of free inputs (R130, log entry 2). -/
def State.takeSample (s : State) : State :=
  if s.scan.sampled then s
  else ({ s with draws := s.draws + 1 }).sampleColumn
    { driven := Config.rowsDriven s.draws, level := Config.lineLevels s.draws }

/-- A drive segment starts: the row levels are fixed from the drive map (R131, R136). -/
def State.startDrive (s : State) : State :=
  { s with scan := { s.scan with segment := .drive (s.rowLevels s.scan.column), elapsed := 0 } }

/-- The column after a column: 0 follows 5 (R129). -/
def nextColumn (c : Fin 6) : Fin 6 := ⟨(c.val + 1) % 6, Nat.mod_lt _ (by decide)⟩

/-- A scan step begins (R129): the scan step setting is read and the column line driven active. -/
def State.startStep (s : State) (column : Fin 6) : State :=
  { s with scan := { s.scan with column := column, segment := .sense, sampled := false,
                                 stepSetting := s.settings.scanStep, elapsed := 0 } }

/-- SCAN_STEP_START (R129): the end of a drive segment, and the step of the next column. In a sense segment the step's sample
comes first, where it has not come, and its drive segment has no length (DESIGN CHOICE, log entry 7). -/
def execScanStepStart (s : State) : Host.Outcome State Fault Refusal :=
  .next (s.live fun s =>
    match s.scan.segment with
    | .off => s
    | .sense => s.takeSample.startStep (nextColumn s.scan.column)
    | .drive _ => s.startStep (nextColumn s.scan.column))

/-- SENSE_SAMPLE (R130, R132 to R134): the end of the sense segment, which takes its one sample; the drive segment is next.
None is taken in a drive segment. -/
def execSenseSample (rows : RowInputs) (s : State) : Host.Outcome State Fault Refusal :=
  .next (s.live fun s => if s.scan.segment = .sense ∧ s.scan.sampled = false then s.sampleColumn rows else s)

/-- DRIVE_SEGMENT (R131, R136): the drive segment that follows the sense segment of the column, and its sample, where no
command has brought that (DESIGN CHOICE, log entry 7). -/
def execDriveSegment (s : State) : Host.Outcome State Fault Refusal :=
  .next (s.live fun s => if s.scan.segment = .sense then s.takeSample.startDrive else s)

end Sys2Proof.Machine
end

