-- ==== Sys2Proof/Machine/Reset.lean ====
section
/-! DEFINITION. Family: resets (spec/01, R23; spec/10, R171; spec/12, R179). -/

namespace Sys2Proof.Machine

/-- What a warm reset gathers while it moves the booths' debts out: the list, the dropped units, and the ARREARS OPENED
records in position order (R77, R171). -/
structure WarmSum where
  arrears : List ArrearsEntry
  dropped : Nat
  opened : List Report
  deriving DecidableEq, Repr

/-- Units an opening of the warm reset drops from the list: the evicted entry, the excess, the unresolved k (R77). -/
def Opening.dropped (o : Opening) : Nat :=
  (match o.evicted with | some e => e.units | none => 0) + o.excess + o.unresolved.getD 0

/-- One booth's units at a warm reset (R23, R77): a merge or a new entry under the debt serial, no direct transfer; without
one, W and the pair's k are summed as dropped. -/
def warmBooth (b : Booth) (c : Intercept) (p : Position) (x : WarmSum) : WarmSum :=
  let pair := outPair c b
  if b.owed = 0 ∧ pair = none then x
  else match b.debtSerial with
    | none => { x with dropped := x.dropped + (b.owed + pairK pair) }
    | some serial =>
      let o := openEntry x.arrears p serial b.owed pair
      { arrears := o.entries, dropped := x.dropped + o.dropped, opened := x.opened ++ [.opened p serial b.owed pair] }

/-- The booths' debts are moved out position by position from 0 to 23 (R23, R77). -/
def State.warmSum (s : State) : WarmSum :=
  positions.foldl (fun x p => warmBooth (s.booth p) (s.slot p) p x) { arrears := s.arrears, dropped := 0, opened := [] }

/-- A booth context after a warm reset: the power-on values, but for the mode (R23). -/
def Booth.warm (b : Booth) : Booth := { Booth.powerOn with mode := b.mode }

/-- The contexts of every booth after a warm reset. -/
def State.warmBooths (s : State) : State := s.forAll fun p s => s.onBooth p Booth.warm

/-- A warm reset (R23, R69, R77, R89, R104, R139, R141, R163, R171). The reset stays asserted until its release. -/
def State.warm (s : State) : State :=
  let x := s.warmSum
  let s := s.warmBooths
  { s with slots := Vector.replicate 24 Intercept.powerOn, arrears := x.arrears, divider := 0, tickCount := 0,
           port := Port.reset, sup := Supervisor.reset, scan := Scanner.reset,
           reports := .ofRow .warmRestart x.dropped x.opened.length :: x.opened, lost := 0, resetAsserted := true,
           powerUp := none, lineLow := true,
           ledger := { s.ledger with dropped := s.ledger.dropped + x.dropped } }

/-- A low pulse of the reset line with supply present (R179): under 3 periods it is not taken, from 8 it is a warm
reset, and from 3 to 7 a free value says. -/
def State.resetPulse (s : State) (periods : Nat) : State :=
  if periods < Config.resetPulseNever then s
  else if Config.resetPulseAlways ≤ periods then s.warm
  else
    let t := { s with draws := s.draws + 1 }
    if Config.shortPulseTaken s.draws then t.warm else t

/-- A low level of the reset line while a reset is asserted (R179): a pulse that is taken keeps the line low until its
rising edge, and no new reset is made (log entry 22). -/
def State.lowerLine (s : State) (periods : Nat) : State :=
  if periods < Config.resetPulseNever then s else { s with lineLow := true }

/-- A reset is released (R24, R87, R89, R139, R179): the strap is sampled, the tick divider starts from zero, and the
scan starts with the sense segment of column 0. -/
def State.release (s : State) (strap : Bool) : State :=
  ({ s with resetAsserted := false, powerUp := none, strap := some strap, divider := 0 }).startStep 0

/-- A power-on reset has not yet lasted its 4,096 periods (R179). -/
def State.poweringUp (s : State) : Bool := s.powerUp.any fun n => n < Config.powerUpPeriods

/-- One reference clock period while a reset is asserted (R179): a power-on reset counts it, and is released once it has
lasted 4,096 periods with the reset line high, the strap's level then being a free value. -/
def State.holdPeriod (s : State) : State :=
  match s.powerUp with
  | none => s
  | some n =>
    let s := { s with powerUp := some (min Config.powerUpPeriods (n + 1)) }
    if s.poweringUp ∨ s.lineLow then s else ({ s with draws := s.draws + 1 }).release (Config.strapLevel s.draws)

/-- POWER_ON_RESET (R23, R172, R179): every field at its power-on value. The command queue is no part of the block, and
the supply does not move the reset line. -/
def execPowerOnReset (s : State) : Host.Outcome State Fault Refusal :=
  .next { State.powerOn with pending := s.pending, draws := s.draws, lineLow := s.lineLow }

/-- WARM_RESET (R23, R171, R179). -/
def execWarmReset (periods : Nat) (s : State) : Host.Outcome State Fault Refusal :=
  .next (if s.resetAsserted then s.lowerLine periods else s.resetPulse periods)

/-- RESET_RELEASE (R24, R87, R89, R139, R179): the rising edge of the reset line releases the reset, but for a power-on
reset that has not yet lasted its 4,096 periods. -/
def execResetRelease (strap : Bool) (s : State) : Host.Outcome State Fault Refusal :=
  .next (if s.resetAsserted then
    let s := { s with lineLow := false }
    if s.poweringUp then s else s.release strap
  else s)

end Sys2Proof.Machine
end

