-- ==== Sys2Proof/Machine/Clock.lean ====
section
/-! DEFINITION. One period of the reference clock with no command (R24, R129, R140, R141, R142, R146): what a step does on an empty queue. -/

namespace Sys2Proof.Machine

/-- What can fall due in a period of the reference clock. -/
inductive Due where
  | frameTimer | lossTimer | tick | segment
  deriving DecidableEq, Repr

/-- A timer counts one period and stops at its limit (R141, R142). -/
def countTimer (limit : Nat) (t : Option Nat) : Option Nat := t.map fun n => min limit (n + 1)

/-- A timer below its limit reaches it in this period (R142, R146). -/
def timerDue (limit : Nat) (t : Option Nat) : Bool := t.any fun n => n + 1 = limit

/-- The segment in progress ends in this period (R129): half a step is the setting × 128 periods. -/
def Scanner.segmentDue (x : Scanner) : Bool := x.segment ≠ .off ∧ x.stepSetting * Config.segmentPeriods ≤ x.elapsed + 1

/-- What falls due in this period. -/
def State.due (s : State) : List Due :=
  (if timerDue Config.frameTimeoutPeriods s.sup.frameTimer then [.frameTimer] else []) ++
  (if timerDue Config.longLossPeriods s.sup.lossTimer then [.lossTimer] else []) ++
  (if Config.tickPeriods ≤ s.divider + 1 then [.tick] else []) ++
  (if s.scan.segmentDue then [.segment] else [])

/-- Every counter of reference clock periods moves by one (R24, R129, R141). -/
def State.countPeriod (s : State) : State :=
  { s with divider := s.divider + 1,
           sup := { s.sup with frameTimer := countTimer Config.frameTimeoutPeriods s.sup.frameTimer,
                               lossTimer := countTimer Config.longLossPeriods s.sup.lossTimer },
           scan := { s.scan with elapsed := s.scan.elapsed + 1 } }

/-- The order in which things due in one period come: a free choice, as the spec gives none. -/
def orderDue : Nat → Nat → List Due → List Due
  | _, _, [] => []
  | _, _, [x] => [x]
  | 0, _, l => l
  | n + 1, draw, x :: y :: l =>
    let i := Config.dueOrder draw % (l.length + 2)
    (x :: y :: l).getD i x :: orderDue n (draw + 1) ((x :: y :: l).eraseIdx i)

/-- The end of a segment (R129 to R131): a sense segment ends with its sample, and the drive segment starts; a drive
segment ends with the next step. -/
def State.endSegment (s : State) : State :=
  match s.scan.segment with
  | .off => s
  | .sense => s.takeSample.startDrive
  | .drive _ => s.startStep (nextColumn s.scan.column)

/-- A thing that has fallen due happens. -/
def State.happen (s : State) : Due → State
  | .frameTimer => s.expireFrameTimer 0
  | .lossTimer => if s.sup.highway = .lost then s.enterLongLost else s
  | .tick => s.tick
  | .segment => s.endSegment

/-- A sense segment that its sample has ended is over, and the drive segment starts before the next period (R129, R131). -/
def State.leaveSense (s : State) : State :=
  if s.scan.segment = .sense ∧ s.scan.sampled = true then s.startDrive else s

/-- One period of the reference clock. While a reset is asserted nothing counts but the length of a power-on reset (R24,
R139, R141, R179). -/
def State.clockPeriod (s : State) : State :=
  if s.resetAsserted then s.holdPeriod
  else
    let s := s.leaveSense
    let l := orderDue 4 s.draws s.due
    l.foldl State.happen { s.countPeriod with draws := s.draws + (l.length - 1) }

end Sys2Proof.Machine
end

