-- ==== Sys2Proof/Machine/Dispatch.lean ====
section
/-! DEFINITION. The meaning of each command: one arm per constructor of Instr. -/

namespace Sys2Proof.Machine

def exec (i : Instr) (s : State) : Host.Outcome State Fault Refusal :=
  match i with
  | .powerOnReset => Sys2Proof.Machine.execPowerOnReset s
  | .warmReset periods => Sys2Proof.Machine.execWarmReset periods s
  | .frameStart cut => Sys2Proof.Machine.execFrameStart cut s
  | .headerArrival frame minute flags table => Sys2Proof.Machine.execHeaderArrival frame minute flags table s
  | .restart => Sys2Proof.Machine.execRestart s
  | .tariff band period charge rate => Sys2Proof.Machine.execTariff band period charge rate s
  | .schedule slot minute period => Sys2Proof.Machine.execSchedule slot minute period s
  | .setting number value => Sys2Proof.Machine.execSetting number value s
  | .position number mode => Sys2Proof.Machine.execPosition number mode s
  | .null p => Sys2Proof.Machine.execNull p s
  | .read p a rest => Sys2Proof.Machine.execRead p a rest s
  | .write p a v c => Sys2Proof.Machine.execWrite p a v c s
  | .protectedWrite p a v c => Sys2Proof.Machine.execProtectedWrite p a v c s
  | .lockedRead p a rest => Sys2Proof.Machine.execLockedRead p a rest s
  | .unlock p => Sys2Proof.Machine.execUnlock p s
  | .unknownKind p code => Sys2Proof.Machine.execUnknownKind p code s
  | .absent p rest => Sys2Proof.Machine.execAbsent p rest s
  | .ready p rest => Sys2Proof.Machine.execReady p rest s
  | .data p a v last => Sys2Proof.Machine.execData p a v last s
  | .accepted p a rest => Sys2Proof.Machine.execAccepted p a rest s
  | .busy p rest => Sys2Proof.Machine.execBusy p rest s
  | .written p a v last => Sys2Proof.Machine.execWritten p a v last s
  | .error p rest => Sys2Proof.Machine.execError p rest s
  | .unknownStatus p bytes => Sys2Proof.Machine.execUnknownStatus p bytes s
  | .frameEnd trailer => Sys2Proof.Machine.execFrameEnd trailer s
  | .lockExpired p => Sys2Proof.Machine.execLockExpired p s
  | .writeTimeout p => Sys2Proof.Machine.execWriteTimeout p s
  | .trailerRecord sent => Sys2Proof.Machine.execTrailerRecord sent s
  | .frameTimeout cut => Sys2Proof.Machine.execFrameTimeout cut s
  | .longLost => Sys2Proof.Machine.execLongLost s
  | .chargeTick => Sys2Proof.Machine.execChargeTick s
  | .graceExpired p => Sys2Proof.Machine.execGraceExpired p s
  | .clearDownAssertEnd p => Sys2Proof.Machine.execClearDownAssertEnd p s
  | .clearDownGapEnd p => Sys2Proof.Machine.execClearDownGapEnd p s
  | .flashStep => Sys2Proof.Machine.execFlashStep s
  | .ageStep => Sys2Proof.Machine.execAgeStep s
  | .arrearsExpiry serial => Sys2Proof.Machine.execArrearsExpiry serial s
  | .scanStepStart => Sys2Proof.Machine.execScanStepStart s
  | .senseSample rows => Sys2Proof.Machine.execSenseSample rows s
  | .driveSegment => Sys2Proof.Machine.execDriveSegment s
  | .resetRelease strap => Sys2Proof.Machine.execResetRelease strap s

end Sys2Proof.Machine
end

