-- ==== Sys2Proof/Safety.lean ====
section
/-! DEFINITION. What the statements speak of: when the part takes events, what a command leaves alone, and the invariants of the part. -/

namespace Sys2Proof.Machine

/-! ## When events are taken -/

/-- No reset is asserted. -/
def State.running (s : State) : Prop := s.resetAsserted = false

/-- A frame is being taken: no reset is asserted and a frame is in progress (R89). -/
def State.taking (s : State) : Prop := s.resetAsserted = false ∧ s.port.inProgress = true

/-- A frame is being taken, and the reply at `p` acts on a booth with its card present and no fault (R2). -/
def State.cardHere (s : State) (p : Position) : Prop :=
  s.taking ∧ (s.booth p).state ≠ .fault ∧ (s.booth p).present = .yes

/-- The slot of `p` was not used by the part: its request was the row controller's, or none is recorded (R105). -/
def State.rowSlot (s : State) (p : Position) : Prop := (s.slot p).record.map SlotRecord.origin ≠ some .own

/-- The reply that a command brings, with its position. -/
def replyOf : Instr → Option (Position × Reply)
  | .absent p _ => some (p, .absent)
  | .ready p _ => some (p, .ready)
  | .data p a v _ => some (p, .data a v)
  | .accepted p a _ => some (p, .accepted a)
  | .busy p _ => some (p, .busy)
  | .written p a v _ => some (p, .written a v)
  | .error p _ => some (p, .error)
  | .unknownStatus p _ => some (p, .unknown)
  | _ => none

/-! ## When a sample hands on an event (R132 to R134) -/

/-- A sample at `level` completes a run of the record, with the debounce count `d` (R132). -/
def Debounce.completes (x : Debounce) (d : Nat) (level : Bool) : Prop :=
  x.level ≠ some level ∧ d ≤ if 0 < x.runCount ∧ level = x.runLevel then x.runCount + 1 else 1

/-- The sample of these rows completes a run of LOOP at `p` (R128, R132). -/
def State.loopCompletes (s : State) (rows : Byte) (p : Position) : Prop :=
  (s.loop p).completes s.settings.debounceCount (rows.getLsbD (2 * (p.val % 4)))

/-- The sample of these rows completes a run of ANSWER at `p` (R128, R132). -/
def State.answerCompletes (s : State) (rows : Byte) (p : Position) : Prop :=
  (s.answerLine p).completes s.settings.debounceCount (rows.getLsbD (2 * (p.val % 4) + 1))

/-- A sense segment awaits its sample at the column of `p`, and the sample of these rows brings no event to another booth
of the column: each of them is FREE, or completes no run (R5, R128, R132, R134). -/
structure State.SamplesAlone (s : State) (rows : Byte) (p : Position) : Prop where
  running : s.running
  sense : s.scan.segment = .sense
  unsampled : s.scan.sampled = false
  column : columnOf p = s.scan.column
  others : ∀ q, q ≠ p → columnOf q = columnOf p →
    (s.booth q).mode = .free ∨ (¬ s.loopCompletes rows q ∧ ¬ s.answerCompletes rows q)

/-! ## What a tick does at each booth (R36 to R40) -/

/-- The new units of a tick at `p`: the whole units of the quanta at the re-selected rate, none without a rate in use
(R37, R38, R42). -/
def State.tickUnits (s : State) (p : Position) : Nat :=
  match (s.booth p).rate with
  | some r => ((s.booth p).fraction + s.reselect p r) / 1024
  | none => 0

/-- A tick at `p` places no report: it takes no W past 65,535 and ends no grace countdown (R13, R40). -/
def State.tickPlacesNoReport (s : State) (p : Position) : Prop :=
  (s.tickUnits p = 0 ∨ (s.booth p).owed + s.tickUnits p ≤ 65535) ∧ ((s.booth p).state = .grace → 2 ≤ (s.booth p).grace)

/-- A tick places no report but what it places at `p`: none at another booth, and no entry reaches the arrears retention
(R13, R25, R40, R79). -/
structure State.QuietTick (s : State) (p : Position) : Prop where
  others : ∀ q, q ≠ p → s.tickPlacesNoReport q
  entries : (s.tickCount + 1) % 600 = 0 → ∀ e ∈ s.arrears, e.age + 1 < s.settings.retention

/-! ## What is left alone -/

/-- Every booth context but that of `p` is as before. -/
def OtherBooths (p : Position) (s t : State) : Prop := ∀ q, q ≠ p → t.booth q = s.booth q

/-- Every interception context but that of `p` is as before. -/
def OtherSlots (p : Position) (s t : State) : Prop := ∀ q, q ≠ p → t.slot q = s.slot q

/-- Tables, settings and the minute of day are as before. -/
def SameTables (s t : State) : Prop :=
  t.tariff = s.tariff ∧ t.schedule = s.schedule ∧ t.settings = s.settings ∧ t.minute = s.minute

/-- The Report Queue and the lost count are as before. -/
def SameReports (s t : State) : Prop := t.reports = s.reports ∧ t.lost = s.lost

/-- The reset line, its reset and the strap are as before. -/
def SameReset (s t : State) : Prop :=
  t.resetAsserted = s.resetAsserted ∧ t.powerUp = s.powerUp ∧ t.lineLow = s.lineLow ∧ t.strap = s.strap

/-- Timebase, scanner, supervisor, reset line, strap and command queue are as before. -/
def SameClocks (s t : State) : Prop :=
  t.divider = s.divider ∧ t.tickCount = s.tickCount ∧ t.scan = s.scan ∧ t.sup = s.sup ∧ SameReset s t ∧
    t.pending = s.pending ∧ t.draws = s.draws

/-- All that no booth, card, debt, report or account is part of is as before. -/
def SameRest (s t : State) : Prop := SameTables s t ∧ SameClocks s t ∧ t.port = s.port

/-- A booth after its available credit has been evaluated, with the interception context `c` and the grace time setting
(R3, R12, R14): CALL goes to GRACE with the full grace time at a credit of 0 or less, GRACE with an identified card
present goes to CALL above 0, and nothing else moves, nor anything at all while credit is undefined. -/
def Booth.evaluated (b : Booth) (c : Intercept) (graceTime : Nat) : Booth :=
  match b.known with
  | none => b
  | some n =>
    let credit : Int := n - b.owed - c.k - pairK b.pendingRes
    if b.state = .call ∧ credit ≤ 0 then { b with state := .grace, grace := graceTime * 10 }
    else if b.state = .grace ∧ b.present = .yes ∧ b.serialHigh.isSome ∧ b.serialLow.isSome ∧ 0 < credit then
      { b with state := .call, grace := 0 }
    else b

/-! ## What a slot leaves behind -/

/-- `s` with the contexts `b` and `c` at `p`, and nothing else changed. -/
def State.withContexts (s : State) (p : Position) (b : Booth) (c : Intercept) : State := (s.setBooth p b).setSlot p c

/-- The port after the arrival of request `p`: these five bytes are on their way to the reader, and the frame has
reached byte time 15 + 5p (R90). -/
def Port.afterRequest (x : Port) (p : Position) (bytes : SlotBytes) : Port :=
  { x with byteTime := max x.byteTime (15 + 5 * p.val), downSlots := x.downSlots.set p.val (some bytes) p.isLt }

/-- The port after the arrival of reply `p`: the row controller is shown `u`, and the frame has reached byte time
27 + 5p (R91). -/
def Port.afterReply (x : Port) (p : Position) (u : UpReply) : Port :=
  { x with byteTime := max x.byteTime (27 + 5 * p.val), upSlots := x.upSlots.set p.val (some u) p.isLt }

/-- `s` after a request arrival at `p` that leaves the contexts `b` and `c` with the slot record `r` and sends `bytes` to
the reader; nothing else is changed. -/
def State.requested (s : State) (p : Position) (b : Booth) (c : Intercept) (r : SlotRecord) (bytes : SlotBytes) : State :=
  { s.withContexts p b { c with record := some r } with port := s.port.afterRequest p bytes }

/-- `s` after a reply arrival at `p` that leaves the contexts `b` and `c`, shows the row controller `u` and clears the
slot record; nothing else is changed. -/
def State.replied (s : State) (p : Position) (b : Booth) (c : Intercept) (u : UpReply) : State :=
  { s.withContexts p b { c with record := none } with port := s.port.afterReply p u }

/-- A reply arrival at `p` took the state from `s` to `t` and showed the row controller `u`: no other position, no table,
no clock and no other part of the port changed. -/
structure RepliedAt (p : Position) (u : UpReply) (s t : State) : Prop where
  booths : OtherBooths p s t
  slots : OtherSlots p s t
  tables : SameTables s t
  clocks : SameClocks s t
  port : t.port = s.port.afterReply p u
  record : (t.slot p).record = none

/-! ## Invariants -/

/-- Every setting is in its range (R158). -/
structure Settings.InRange (t : Settings) : Prop where
  insertionThreshold : 1 ≤ t.insertionThreshold ∧ t.insertionThreshold ≤ 15
  rowAllowance : t.rowAllowance ≤ 15
  lowCredit : t.lowCredit ≤ 255
  graceTime : t.graceTime ≤ 60
  lockLimit : 2 ≤ t.lockLimit ∧ t.lockLimit ≤ 15
  retention : 1 ≤ t.retention ∧ t.retention ≤ 255
  debounceCount : 2 ≤ t.debounceCount ∧ t.debounceCount ≤ 8
  scanStep : 1 ≤ t.scanStep ∧ t.scanStep ≤ 64
  clearDownHold : 1 ≤ t.clearDownHold ∧ t.clearDownHold ≤ 20
  alertThreshold : 1 ≤ t.alertThreshold ∧ t.alertThreshold ≤ 32

/-- Tables and settings hold values of their ranges only (R26, R28, R30, R158). -/
structure State.TablesInRange (s : State) : Prop where
  settings : s.settings.InRange
  tariff : ∀ (b : Band) (q : Period) (e : TariffEntry), s.tariff[b][q] = some e → e.charge ≤ 15 ∧ e.rate ≤ 4095
  schedule : ∀ (n : Fin 8) (x : SwitchPoint), s.schedule[n] = some x → x.minute < 1440
  minute : ∀ m, s.minute = some m → m < 1440

/-- The remaining ticks of a clear-down timer: 1 to 20 in ASSERT, 1 to 50 in GAP (R1). -/
def ClearDown.inRange : ClearDown → Prop
  | .assert n => 1 ≤ n ∧ n ≤ 20
  | .gap n => 1 ≤ n ∧ n ≤ 50

/-- A pair is in range (R62, R67). -/
structure Pair.InRange (q : Pair) : Prop where
  prior : q.prior ≤ 65535
  new : q.new ≤ 65535
  k : 1 ≤ q.k ∧ q.k ≤ 65535

/-- Every number of a booth context is in range (R1, R39, R40). -/
structure Booth.InRange (b : Booth) : Prop where
  serialHigh : ∀ n, b.serialHigh = some n → n ≤ 65535
  serialLow : ∀ n, b.serialLow = some n → n ≤ 65535
  expected : ∀ n, b.expected = some n → n < 4294967296
  lastSerial : ∀ n, b.lastSerial = some n → n < 4294967296
  known : ∀ n, b.known = some n → n ≤ 65535
  rate : ∀ r, b.rate = some r → r ≤ 4095
  fraction : b.fraction < 1024
  owed : b.owed ≤ 65535
  callUnits : b.callUnits ≤ 65535
  pendingRes : ∀ q, b.pendingRes = some q → q.InRange
  grace : b.grace ≤ 600
  timer : ∀ t, b.timer = some t → t.inRange

/-- An in-flight record is in range (R104). -/
structure InFlight.InRange (r : InFlight) : Prop where
  value : r.value ≤ 65535
  prior : ∀ n, r.prior = some n → n ≤ 65535
  k : r.k ≤ 65535
  frames : r.frames ≤ 16

/-- Every number of an interception context is in range (R53, R104, R105, R117). -/
structure Intercept.InRange (c : Intercept) : Prop where
  inFlight : ∀ r, c.inFlight = some r → r.InRange
  lock : c.lock ≤ 15
  tries : ∀ h, c.held = some h → h.tries ≤ 3
  heldValue : ∀ h v, c.held = some h → h.request = .write v → v ≤ 65535
  sentValue : ∀ r a v, c.record = some r → r.sent = .write a v → v ≤ 65535

/-- An arrears entry is in range; one that an age step leaves is below the arrears retention (R67, R79). -/
structure ArrearsEntry.InRange (e : ArrearsEntry) : Prop where
  serial : e.serial < 4294967296
  owed : e.owed ≤ 65535
  pair : ∀ q, e.pair = some q → q.InRange
  age : e.age ≤ 254

/-- Every timer and count of the part that no booth holds is in range (R24, R25, R129, R132, R141, R179). -/
structure State.TimersInRange (s : State) : Prop where
  divider : s.divider < 204800
  tickCount : s.tickCount < 600
  frameTimer : ∀ n, s.sup.frameTimer = some n → n ≤ 24576
  lossTimer : ∀ n, s.sup.lossTimer = some n → n ≤ 4096000
  lossDuration : s.sup.lossDuration ≤ 65535
  segment : s.scan.segment ≠ .off →
    1 ≤ s.scan.stepSetting ∧ s.scan.stepSetting ≤ 64 ∧ s.scan.elapsed ≤ s.scan.stepSetting * 128 ∧
      (s.scan.elapsed = s.scan.stepSetting * 128 → s.scan.segment = .sense ∧ s.scan.sampled = true)
  loopRun : ∀ p, (s.loop p).runCount ≤ 7
  answerRun : ∀ p, (s.answerLine p).runCount ≤ 7
  powerUp : ∀ n, s.powerUp = some n → n ≤ 4096

/-- Contexts, list, queue and timers hold values of their ranges only (R68, R166, R168). -/
structure State.CountsInRange (s : State) : Prop where
  booths : ∀ p, (s.booth p).InRange
  slots : ∀ p, (s.slot p).InRange
  arrearsLength : s.arrears.length ≤ 32
  arrearsDistinct : (s.arrears.map ArrearsEntry.serial).Nodup
  arrears : ∀ e ∈ s.arrears, e.InRange
  reportsLength : s.reports.length ≤ 32
  lost : s.lost ≤ 255
  timers : s.TimersInRange

/-- Tables and counts in range, together: the invariant that every step keeps. -/
structure State.InRange (s : State) : Prop where
  tables : s.TablesInRange
  counts : s.CountsInRange

/-- No serial is held by an arrears entry while it is the identified serial of a present card, and no two entries carry
the same serial (R68, R72). -/
structure State.SerialsApart (s : State) : Prop where
  distinct : (s.arrears.map ArrearsEntry.serial).Nodup
  apart : ∀ p n, (s.booth p).holds n = true → ∀ e ∈ s.arrears, e.serial ≠ n

/-- The modes and states of the booths agree (R5, 1.3): a FREE booth is in VACANT, CARD or FAULT with no call, and a
booth in VACANT or CARD has no call and no rate. -/
structure State.ModesAgree (s : State) : Prop where
  freeState : ∀ p, (s.booth p).mode = .free →
    (s.booth p).state = .vacant ∨ (s.booth p).state = .card ∨ (s.booth p).state = .fault
  freeNoCall : ∀ p, (s.booth p).mode = .free → (s.booth p).callUp = false ∧ (s.booth p).rate = none
  restNoCall : ∀ p, (s.booth p).state = .vacant ∨ (s.booth p).state = .card →
    (s.booth p).callUp = false ∧ (s.booth p).rate = none

/-- What an in-flight record holds against its booth (R58, R59): a prior balance is the known balance and the word is 4;
covered units come with a prior balance and are at most prior − value. -/
def InFlight.sound (r : InFlight) (b : Booth) : Prop :=
  (∀ n, r.prior = some n → b.known = some n ∧ r.word = 4) ∧
  (0 < r.k → ∃ n, r.prior = some n ∧ r.value < n ∧ r.k ≤ n - r.value)

/-- A held own WRITE lowers the known balance, by no more than W and the k in flight (R51, R55, R58). -/
def Held.sound (h : Held) (b : Booth) (k : Nat) : Prop :=
  ∀ v, h.request = .write v → ∃ n, b.known = some n ∧ v < n ∧ n - v ≤ b.owed + k

/-- What a sent write of a slot record rests on until its reply (R46, R107, R110, R114, R126): no write is in flight; an
own write is the held WRITE of word 4; a write of word 4 is not sent in FAULT, and, but for a PROTECTED WRITE, its
value is at most the known balance. -/
def SlotRecord.sound (r : SlotRecord) (b : Booth) (c : Intercept) : Prop :=
  ∀ a v, r.sent = .write a v →
    c.inFlight = none ∧
    (r.origin = .own → a = 4 ∧ c.held.map Held.request = some (.write v)) ∧
    (a = 4 → b.state ≠ .fault) ∧
    (a = 4 → r.treatment ≠ .converted → ∃ n, b.known = some n ∧ v ≤ n)

/-- The writes and pairs of one position are sound. -/
structure SoundAt (b : Booth) (c : Intercept) : Prop where
  noCard : b.present ≠ .yes → b.known = none ∧ b.pendingRes = none ∧ c.k = 0 ∧ c.held = none
  resolved : b.known ≠ none → b.pendingRes = none
  fault : b.state = .fault → b.serialHigh = none ∧ b.serialLow = none ∧ b.known = none ∧ b.pendingRes = none ∧
    c.held = none ∧ ∀ r, c.inFlight = some r → r.word ≠ 4
  inFlight : ∀ r, c.inFlight = some r → r.sound b
  held : ∀ h, c.held = some h → h.sound b c.k
  record : ∀ r, c.record = some r → r.sound b c

/-- The units of one position: W, the k of its pending resolution and the k in flight (R66). -/
def unitsAt (b : Booth) (c : Intercept) : Nat := b.owed + pairK b.pendingRes + c.k

/-- The units held in booths and entries (R66). -/
def State.unitsHeld (s : State) : Nat :=
  (positions.map fun p => unitsAt (s.booth p) (s.slot p)).sum + (s.arrears.map ArrearsEntry.units).sum

/-- Every unit accrued sits in exactly one place (R66), in a state whose writes and pairs are sound and whose slot
records belong to a frame in progress (R105). -/
structure State.Accounted (s : State) : Prop where
  sound : ∀ p, SoundAt (s.booth p) (s.slot p)
  idle : s.port.inProgress = false → ∀ p, (s.slot p).record = none
  distinct : (s.arrears.map ArrearsEntry.serial).Nodup
  balance : s.ledger.accrued = s.unitsHeld + s.ledger.debited + s.ledger.dropped

/-- Available credit has been evaluated at every booth (R3, R12, R14): a booth in CALL has credit left wherever it is
defined, and a booth in GRACE with an identified card present has none. -/
structure State.CreditSettled (s : State) : Prop where
  call : ∀ p c, (s.booth p).state = .call → s.credit p = some c → 0 < c
  grace : ∀ p c, (s.booth p).state = .grace → (s.booth p).present = .yes → (s.booth p).serial.isSome = true →
    s.credit p = some c → c ≤ 0

end Sys2Proof.Machine
end

