-- ==== Sys2Proof/Certificates/Slice0/Obligations.lean ====
section
/-! DEFINITION. The statements for the provers, in the order of OBLIGATIONS.json. -/

open Sys2Proof Sys2Proof.Machine

/-! ## Steps and resets -/

/-- The model's choice (log entries 21 and 25): commands wait in a queue that is a field of the model and not of the
part, and a step runs the one at its front, whole, on the state with the queue's rest. That each event acts whole and
before the next is the spec's own (What each step holds). -/
def Obligations.StepRunsFrontCommand : Prop :=
  ∀ (c : Instr) (rest : List Instr) (s : State), s.pending = c :: rest → step s = exec c { s with pending := rest }

/-- The model's choice (log entry 1): on an empty queue a step is one period of the reference clock. While a reset is
asserted nothing counts but the length of a power-on reset, which is released once it has lasted 4,096 periods with
the reset line high (R179, log entry 22). Otherwise every counter moves by one. The frame timer falls due at 24,576
periods, the loss timer at 4,096,000, a tick at 204,800, a segment at its setting times 128; what falls due alone is
that thing's command on the counted state, the end of a sense segment sampling free inputs of the rows (log entry 2);
a sense segment that SENSE_SAMPLE has ended goes over to its drive segment before the period; several things due
happen one after the other, each once, in an order left open (log entry 3) (R24, R129, R139, R141, R142, R146). -/
def Obligations.EmptyQueuePassesOneClockPeriod : Prop :=
  ∀ s : State, s.pending = [] →
    (s.resetAsserted = true →
      (s.powerUp = none → step s = .next s) ∧
      (∀ n, s.powerUp = some n →
        (n + 1 < 4096 → step s = .next { s with powerUp := some (n + 1) }) ∧
        (4095 ≤ n → s.lineLow = true → step s = .next { s with powerUp := some 4096 }) ∧
        (4095 ≤ n → s.lineLow = false → ∃ strap,
          step s = exec (.resetRelease strap) { s with powerUp := some 4096, draws := s.draws + 1 }))) ∧
    (s.running → s.scan.segment = .sense → s.scan.sampled = true →
      ∃ u, exec .driveSegment s = .next u ∧ u.scan.segment ≠ .sense ∧ step s = step u) ∧
    (s.running → ¬ (s.scan.segment = .sense ∧ s.scan.sampled = true) →
      let counted : State := { s with
        divider := s.divider + 1,
        sup := { s.sup with frameTimer := s.sup.frameTimer.map fun n => min 24576 (n + 1),
                            lossTimer := s.sup.lossTimer.map fun n => min 4096000 (n + 1) },
        scan := { s.scan with elapsed := s.scan.elapsed + 1 } }
      let due : List Due :=
        (if s.sup.frameTimer = some 24575 then [.frameTimer] else []) ++
        (if s.sup.lossTimer = some 4095999 then [.lossTimer] else []) ++
        (if 204799 ≤ s.divider then [.tick] else []) ++
        (if s.scan.segment ≠ .off ∧ s.scan.stepSetting * 128 ≤ s.scan.elapsed + 1 then [.segment] else [])
      (due = [] → step s = .next counted) ∧
      (due = [.tick] → step s = exec .chargeTick counted) ∧
      (due = [.frameTimer] → step s = exec (.frameTimeout 0) counted) ∧
      (due = [.lossTimer] → step s = exec .longLost counted) ∧
      (due = [.segment] → s.scan.segment = .sense →
        ∃ rows t, exec (.senseSample rows) { counted with draws := s.draws + 1 } = .next t ∧
          step s = exec .driveSegment t) ∧
      (∀ rows, due = [.segment] → s.scan.segment = .drive rows → step s = exec .scanStepStart counted) ∧
      (∃ order : List Due, order.Perm due ∧
        step s = .next (order.foldl State.happen { counted with draws := s.draws + (order.length - 1) })) ∧
      (∀ u : State, u.running →
        exec .chargeTick u = .next (u.happen .tick) ∧ exec .longLost u = .next (u.happen .lossTimer) ∧
        (u.sup.frameTimer ≠ none → exec (.frameTimeout 0) u = .next (u.happen .frameTimer))))

/-- The model's choice (log entries 22 and 26): every command of the table completes from every state, with no fault
and no refusal, and none touches the queue of waiting commands, a reset included. -/
def Obligations.EveryCommandCompletesAndKeepsTheQueue : Prop :=
  ∀ (c : Instr) (s : State), ∃ t, exec c s = .next t ∧ t.pending = s.pending

/-- Power-on reset leaves every field at the value its chapter gives (R23, R24, R25, R27, R28, R30, R69, R89, R104,
R139, R141, R158, R163, R169, R172, R179): no column line active, no row driven, every highway output at idle fill,
the alert line released, RD_FS low while the strap has not been sampled. The model's own choices are the queue and the
draw count, which stay (log entries 21 and 22), the ledger at 0 (log entry 21), and the reset line, which the supply
does not move (log entry 22). -/
def Obligations.PowerOnResetValues : Prop :=
  ∀ s : State, ∃ t, exec .powerOnReset s = .next t ∧
    (∀ p, t.booth p =
      { mode := .charged, pendingMode := none, state := .vacant, present := .unknown, serialHigh := none,
        serialLow := none, expected := none, lastSerial := none, known := none, band := none, bandAtAnswer := 0,
        callUp := false, rate := none, fraction := 0, owed := 0, callUnits := 0, pendingRes := none, grace := 0,
        timer := none, resumed := .waiting, firstLoop := none, firstAnswer := none }) ∧
    (∀ p, t.slot p = { inFlight := none, lock := 0, held := none, record := none }) ∧
    t.arrears = [] ∧ (∀ (b : Band) (q : Period), t.tariff[b][q] = none) ∧ (∀ n : Fin 8, t.schedule[n] = none) ∧
    t.settings =
      { insertionThreshold := 2, rowAllowance := 0, lowCredit := 5, graceTime := 15, lockLimit := 8, retention := 30,
        parity := .any, debounceCount := 3, scanStep := 8, clearDownHold := 5, alertThreshold := 8, unknownBand := 15 } ∧
    t.minute = none ∧ t.divider = 0 ∧ t.tickCount = 0 ∧
    t.port =
      { inProgress := false, frameNumber := none, byteTime := 0, trailerDue := false, trailerRecord := none,
        recordHeld := false, downSync := none, downHeader := none, downSlots := Vector.replicate 24 none,
        downTrailer := none, upHeader := none, upSlots := Vector.replicate 24 none, upTrailer := [] } ∧
    t.sup = { highway := .waiting, frameTimer := none, lossTimer := none, lossDuration := 0 } ∧
    t.scan =
      { column := 0, segment := .off, sampled := false, stepSetting := 0, elapsed := 0,
        loop := Vector.replicate 24 { level := none, runLevel := false, runCount := 0 },
        answer := Vector.replicate 24 { level := none, runLevel := false, runCount := 0 }, flash := true } ∧
    (∀ c, t.columnActive c = false) ∧ t.rowsDriven = none ∧ t.reports = [] ∧ t.lost = 0 ∧ t.resetAsserted = true ∧
    t.powerUp = some 0 ∧ t.lineLow = s.lineLow ∧ t.alert = false ∧ t.strap = none ∧ t.idleSyncLevel = false ∧
    t.ledger = { accrued := 0, debited := 0, dropped := 0 } ∧ t.pending = s.pending ∧ t.draws = s.draws

/-- The rising edge of the reset line releases a warm reset, or a power-on reset that has lasted its 4,096 periods: it
samples the strap, starts the tick divider from zero and begins the sense segment of column 0 with the scan step
setting as it stands (R24, R87, R129, R139, R179). A power-on reset that has not lasted so long stays, with the line
high. With no reset asserted a rising edge changes nothing (the model's choices, log entries 22 and 7). -/
def Obligations.ResetReleaseStartsTheScan : Prop :=
  ∀ (s : State) (strap : Bool),
    (s.resetAsserted = true → (∀ n, s.powerUp = some n → 4096 ≤ n) →
      exec (.resetRelease strap) s = .next { s with
        resetAsserted := false, powerUp := none, lineLow := false, strap := some strap, divider := 0,
        scan := { s.scan with column := 0, segment := .sense, sampled := false, stepSetting := s.settings.scanStep,
                              elapsed := 0 } }) ∧
    (∀ n, s.resetAsserted = true → s.powerUp = some n → n < 4096 →
      exec (.resetRelease strap) s = .next { s with lineLow := false }) ∧
    (s.running → exec (.resetRelease strap) s = .next s)

/-- A low pulse of 8 periods or more is a warm reset, and completes: every booth context takes its power-on values but
for its mode, interception contexts, port, supervisor, scanner and tick count take theirs, and tables, settings and
minute are kept. Position by position from 0, the W and the pair of a booth with either open arrears under its debt
serial, by merge or new entry and never by transfer, or are dropped where it has none. The list is what these openings
leave; what they drop is the units of WARM RESTART, the first record, with one ARREARS OPENED record for each opening
after it (R23, R69, R77, R89, R104, R139, R141, R163, R171, R179). A pulse under 3 periods is not taken; one of 3 to 7
is either (R179). While a reset is asserted a pulse that is taken only lowers the line (the model's choice, log entry
22). -/
def Obligations.WarmResetKeepsTablesAndMovesDebtsOut : Prop :=
  ∀ (s : State) (periods : Nat),
    let debt := fun p : Position =>
      let b := s.booth p
      let pair := outPair (s.slot p) b
      if b.owed = 0 ∧ pair = none then none else some (b.debtSerial, b.owed, pair)
    let moved := positions.foldl (fun (x : List ArrearsEntry × Nat × List Report) p =>
      match debt p with
      | none => x
      | some (none, u, pair) => (x.1, x.2.1 + (u + match pair with | some q => q.k | none => 0), x.2.2)
      | some (some n, u, pair) =>
        let o := openEntry x.1 p n u pair
        (o.entries,
          x.2.1 + ((match o.evicted with | some e => e.units | none => 0) + o.excess + o.unresolved.getD 0),
          x.2.2 ++ [{ kind := .arrearsOpened, position := some p, serial := some n, units := u,
                      aux := if pair.isSome then 1 else 0 }])) (s.arrears, 0, [])
    (s.running → 8 ≤ periods → exec (.warmReset periods) s = .next { s with
      booths := s.booths.map fun b =>
        { mode := b.mode, pendingMode := none, state := .vacant, present := .unknown, serialHigh := none,
          serialLow := none, expected := none, lastSerial := none, known := none, band := none, bandAtAnswer := 0,
          callUp := false, rate := none, fraction := 0, owed := 0, callUnits := 0, pendingRes := none, grace := 0,
          timer := none, resumed := .waiting, firstLoop := none, firstAnswer := none },
      slots := Vector.replicate 24 { inFlight := none, lock := 0, held := none, record := none },
      arrears := moved.1, divider := 0, tickCount := 0, port := Port.reset, sup := Supervisor.reset,
      scan := Scanner.reset,
      reports := { kind := .warmRestart, position := none, serial := none, units := moved.2.1,
                   aux := moved.2.2.length } :: moved.2.2,
      lost := 0, resetAsserted := true, powerUp := none, lineLow := true,
      ledger := { s.ledger with dropped := s.ledger.dropped + moved.2.1 } }) ∧
    (s.running → periods < 3 → exec (.warmReset periods) s = .next s) ∧
    (s.running → 3 ≤ periods → periods < 8 →
      exec (.warmReset periods) s = .next { s with draws := s.draws + 1 } ∨
      exec (.warmReset periods) s = exec (.warmReset 8) { s with draws := s.draws + 1 }) ∧
    (s.resetAsserted = true →
      exec (.warmReset periods) s = .next { s with lineLow := if periods < 3 then s.lineLow else true })

/-- The state after reset meets every invariant stated below. -/
def Obligations.ResetStateMeetsTheInvariants : Prop :=
  State.reset.InRange ∧ State.reset.SerialsApart ∧ State.reset.ModesAgree ∧ State.reset.Accounted ∧
    State.reset.CreditSettled

/-! ## Requests from the row controller -/

/-- READ is passed, LOCKED READ is sent as READ and sets the lock to the lock limit, UNLOCK is sent as NULL and sets
the lock to 0 with no report: in every mode and state of the booth, and nothing else changes. READ's ignored bytes
leave as they came, NULL's as 0 (R85, R90, R106, R115, R116, R175; that a LOCKED READ's ignored bytes leave as they
came is log entry 23). -/
def Obligations.ReadLockedReadAndUnlockAreNeverRefused : Prop :=
  ∀ (s : State) (p : Position) (a : WordAddr) (rest : BitVec 32), s.taking →
    exec (.read p a rest) s =
      .next (s.requested p (s.booth p) (s.slot p) { origin := .row, sent := .read a, treatment := .passed }
        ((1 : BitVec 4) ++ a ++ rest)) ∧
    exec (.lockedRead p a rest) s =
      .next (s.requested p (s.booth p) { s.slot p with lock := s.settings.lockLimit }
        { origin := .row, sent := .read a, treatment := .converted } ((1 : BitVec 4) ++ a ++ rest)) ∧
    exec (.unlock p) s =
      .next (s.requested p (s.booth p) { s.slot p with lock := 0 }
        { origin := .row, sent := .null, treatment := .converted } 0)

/-- A request whose kind code is none of the six goes to the reader as NULL, killed with cause KIND and the code as
its attempted value, whatever the mode, the state, the lock and the in-flight record; the one report is placed, the
lock stays, and the reply to the slot, whatever it is, is replaced by REFUSED (R112, R113, R121). -/
def Obligations.UnknownKindIsKilled : Prop :=
  ∀ (s : State) (p : Position) (code : BitVec 4), s.taking →
    exec (.unknownKind p code) s =
      .next ((s.requested p (s.booth p) (s.slot p)
        { origin := .row, sent := .null, treatment := .killed .kind code.toNat } 0).place
          { kind := .refusedWrite .kind, position := some p, serial := none, units := 0, aux := code.toNat }) ∧
    ∀ (held : Option InFlight) (r : Reply) (bytes : SlotBytes),
      upstream (some { origin := .row, sent := .null, treatment := .killed .kind code.toNat }) held r bytes =
        .refused .kind code.toNat

/-- A WRITE while a write is in flight is sent as NULL with nothing else changed; otherwise it is vetted by its word,
and the first check that fails kills it with its cause: ISSUER for words 0 to 3; FREE, UNKNOWN, RAISE, EXCESS in that
order for word 4. A write that passes is sent as it came, its ignored complement included, and one to word 6 sets the
band (R56, R85, R107 to R109, R111, R112, R175). -/
def Obligations.WriteIsVettedByItsWord : Prop :=
  ∀ (s : State) (p : Position) (a : WordAddr) (v w : Word), s.taking →
    let b := s.booth p
    let c := s.slot p
    let killed := fun cause : RefuseCause =>
      (s.requested p b c { origin := .row, sent := .null, treatment := .killed cause v.toNat } 0).place
        { kind := .refusedWrite cause, position := some p, serial := none, units := 0, aux := v.toNat }
    let passed := fun b' : Booth =>
      s.requested p b' c { origin := .row, sent := .write a v.toNat, treatment := .passed }
        ((2 : BitVec 4) ++ a ++ v ++ w)
    exec (.write p a v w) s = .next (
      if c.inFlight.isSome then s.requested p b c { origin := .row, sent := .null, treatment := .suppressed } 0
      else if a.toNat < 4 then killed .issuer
      else if a = 4 then
        if b.mode = .free then killed .free
        else match b.known with
          | none => killed .unknown
          | some n =>
            if n < v.toNat then killed .raise
            else if b.owed + s.settings.rowAllowance < n - v.toNat then killed .excess
            else passed b
      else if a = 6 then
        passed { b with band := some (if h : v.toNat < 16 then ⟨v.toNat, h⟩ else s.settings.unknownBand) }
      else passed b)

/-- A PROTECTED WRITE while a write is in flight is sent as NULL with nothing else changed; otherwise COMPLEMENT,
ISSUER, UNKNOWN and ENGAGED are checked in that order, the first that fails killing it. One that passes is sent as
WRITE with treatment CONVERTED and the complement 0000h, and one to word 6 sets the band (R107, R110 to R112, R175).
-/
def Obligations.ProtectedWriteIsVetted : Prop :=
  ∀ (s : State) (p : Position) (a : WordAddr) (v w : Word), s.taking →
    let b := s.booth p
    let c := s.slot p
    let killed := fun cause : RefuseCause =>
      (s.requested p b c { origin := .row, sent := .null, treatment := .killed cause v.toNat } 0).place
        { kind := .refusedWrite cause, position := some p, serial := none, units := 0, aux := v.toNat }
    let converted := fun b' : Booth =>
      s.requested p b' c { origin := .row, sent := .write a v.toNat, treatment := .converted }
        ((2 : BitVec 4) ++ a ++ v ++ (0 : Word))
    exec (.protectedWrite p a v w) s = .next (
      if c.inFlight.isSome then s.requested p b c { origin := .row, sent := .null, treatment := .suppressed } 0
      else if w.toNat ≠ 65535 - v.toNat then killed .complement
      else if a.toNat < 4 then killed .issuer
      else if a = 4 then
        if b.state = .fault then killed .unknown
        else if b.state = .call ∨ b.state = .grace ∨ b.state = .clearing ∨ b.state = .opened ∨ 0 < b.owed ∨
            b.pendingRes.isSome then killed .engaged
        else converted b
      else if a = 6 then
        converted { b with band := some (if h : v.toNat < 16 then ⟨v.toNat, h⟩ else s.settings.unknownBand) }
      else converted b)

/-- A NULL at an eligible position carries the first need of the order of needs, with no try used; at a position that
is not eligible, or with no need, the NULL is passed, its ignored fields sent as 0 (R46 to R48, R51, R106, R175). That
a new own request is held from the NULL's arrival, and not from its whole emission (R53, R119), is the model's choice
(log entry 9), and so are the zeros in an own request's ignored fields (log entry 23). -/
def Obligations.NullCarriesTheFirstNeed : Prop :=
  ∀ (s : State) (p : Position) (f : Byte), s.taking → s.port.frameNumber = some f →
    let b := s.booth p
    let c := s.slot p
    let parity : Bool := match s.settings.parity with
      | .any => true
      | .even => f.toNat % 2 = 0
      | .odd => f.toNat % 2 = 1
    let pass := s.requested p b c { origin := .row, sent := .null, treatment := .passed } 0
    let bytes : OwnRequest → SlotBytes := fun q => match q with
      | .read a => (1 : BitVec 4) ++ a ++ (0 : BitVec 32)
      | .write v => (0x24 : Byte) ++ BitVec.ofNat 16 v ++ (0 : Word)
    let ask := fun q : OwnRequest =>
      s.requested p b { c with held := some { request := q, tries := 0 } }
        { origin := .own, sent := q.sent, treatment := .inserted true } (bytes q)
    exec (.null p) s = .next (
      if b.mode = .charged ∧ b.state ≠ .fault ∧ b.present = .yes ∧ s.sup.highway = .running ∧ c.inFlight = none ∧
          c.lock = 0 ∧ parity = true then
        match c.held with
        | some h =>
          s.requested p b c { origin := .own, sent := h.request.sent, treatment := .inserted false } (bytes h.request)
        | none =>
          if b.serialHigh = none then ask (.read 0)
          else if b.serialLow = none then ask (.read 1)
          else match b.known with
            | none => ask (.read 4)
            | some n =>
              if 0 < b.owed ∧ 0 < n ∧ b.pendingRes = none ∧
                  (s.settings.insertionThreshold ≤ b.owed ∨ b.state = .card ∨ b.state = .grace ∨
                    b.state = .clearing ∨ n ≤ b.owed) then ask (.write (n - min b.owed n))
              else pass
      else pass)

/-- Whatever the command, a write of word 4 that goes out to a reader carries a value no greater than the known
balance, unless it is a PROTECTED WRITE with a matching complement at a booth with no call, no owed units and no
pending resolution (R114). -/
def Obligations.ForwardedBalanceWritesAreBounded : Prop :=
  ∀ (s t : State) (c : Instr) (p : Position) (v w : Word), s.Accounted → exec c s = .next t →
    t.port.downSlots[p] = some ((0x24 : Byte) ++ v ++ w) → s.port.downSlots[p] ≠ t.port.downSlots[p] →
    (∃ n, (s.booth p).known = some n ∧ v.toNat ≤ n) ∨
    (∃ x : Word, c = .protectedWrite p 4 v x ∧ x.toNat = 65535 - v.toNat ∧
      ((s.booth p).state = .vacant ∨ (s.booth p).state = .card) ∧ (s.booth p).owed = 0 ∧
      (s.booth p).pendingRes = none)

/-! ## Replies from the readers -/

/-- Every reply is answered upstream by the slot record and the reply: REFUSED in a killed slot, HELD for any reply to
an own READ and for ACCEPTED to an own WRITE, DEBITED for the WRITTEN that settles an own write of word 4, and
otherwise the reply's bytes as received. The slot record is cleared, and nothing else of the port changes but the byte
time reached (R85, R105, R120 to R123, R175). -/
def Obligations.RowControllerIsShownTheRightReply : Prop :=
  ∀ (s : State) (p : Position) (c : Instr) (r : Reply) (bytes : SlotBytes), s.taking → replyOf c = some (p, r) →
    encodeReply c = some (p, bytes) →
    ∃ t u, exec c s = .next t ∧ t.port = s.port.afterReply p u ∧ (t.slot p).record = none ∧
      (∀ q cause x, (s.slot p).record = some q → q.treatment = .killed cause x → u = .refused cause x) ∧
      (∀ q a f, (s.slot p).record = some q → q.treatment = .inserted f → q.sent = .read a → u = .held) ∧
      (∀ q a v w f, (s.slot p).record = some q → q.treatment = .inserted f → q.sent = .write a v → r = .accepted w →
        u = .held) ∧
      ((∀ q, (s.slot p).record = some q →
          q.treatment = .passed ∨ q.treatment = .converted ∨ q.treatment = .suppressed ∨
          ((∃ f, q.treatment = .inserted f) ∧ (∃ a v, q.sent = .write a v) ∧ ∀ w, r ≠ .accepted w)) →
        (∀ v x, r = .written 4 v → (s.slot p).inFlight = some x → x.word = 4 → x.origin = .own →
          u = .debited v.toNat) ∧
        ((∀ v x, r = .written 4 v → (s.slot p).inFlight = some x → x.word = 4 → x.origin ≠ .own) →
          u = .passed bytes))

/-- READY and BUSY carry no word. At a booth with its card present they change nothing there, while BUSY keeps a
record and READY finds none; at a booth without one they insert the card, CARD following VACANT. Where the booth is in
VACANT with a call found up by the resume check, the resumed call starts with the card: CALL at the unknown band's
rate, or CLEARING with TARIFF UNSET. Any reply but ABSENT, of whatever status, inserts the card in the same way at a
booth without one, and then acts as that reply does at the booth with its card present; in a slot that the part did
not use, and with no record, one that carries no word to learn, such as ERROR and the idle fill of a position with no
reader, does no more (R2, R6, R20, R21, R53, R98, R120, R126). That the resumed call at an UNSET entry keeps fraction
and call units and sets resumed to NO is log entry 13 (DEDUCED). -/
def Obligations.ReadyAndBusyOnlyShowTheCard : Prop :=
  ∀ (s : State) (p : Position) (rest : BitVec 28) (cmd : Instr) (r : Reply), s.taking →
    let b := s.booth p
    let c := s.slot p
    let upBusy := upstream c.record c.inFlight .busy ((0x140 : BitVec 12) ++ rest)
    let upReady := upstream c.record none .ready ((0x110 : BitVec 12) ++ rest)
    let shown := { b with present := .yes, serialHigh := none, serialLow := none, known := none, band := none }
    let resumes := b.state = .vacant ∧ b.present ≠ .yes ∧ b.mode = .charged ∧ b.resumed = .waiting ∧
      b.firstLoop = some true ∧ b.firstAnswer = some true
    (¬ resumes →
      let b' := if b.state = .fault ∨ b.present = .yes then b
        else { shown with state := if b.state = .vacant then .card else b.state }
      exec (.busy p rest) s = .next (s.replied p b' c upBusy) ∧
      (c.inFlight = none → exec (.ready p rest) s = .next (s.replied p b' c upReady))) ∧
    (resumes →
      let band := s.settings.unknownBand
      let started := { shown with callUp := true, resumed := .no, bandAtAnswer := band }
      (∀ e, s.tariff[band][s.currentPeriod] = some e →
        let b' := { started with state := .call, rate := some e.rate, fraction := 0, callUnits := 0 }
        exec (.busy p rest) s = .next (s.replied p b' c upBusy) ∧
        (c.inFlight = none → exec (.ready p rest) s = .next (s.replied p b' c upReady))) ∧
      (s.tariff[band][s.currentPeriod] = none →
        let b' := { started with state := .clearing, rate := none, grace := 0,
                                 timer := some (.assert s.settings.clearDownHold) }
        let record : Report :=
          { kind := .clearDown .tariffUnset, position := some p, serial := none, units := 0, aux := 0 }
        exec (.busy p rest) s = .next ((s.replied p b' c upBusy).place record) ∧
        (c.inFlight = none → exec (.ready p rest) s = .next ((s.replied p b' c upReady).place record)) ∧
        (replyOf cmd = some (p, r) → r ≠ .absent → exec cmd s = exec cmd ((s.withContexts p b' c).place record)))) ∧
    (replyOf cmd = some (p, r) → r ≠ .absent → b.state ≠ .fault → b.present ≠ .yes →
      (¬ resumes →
        let b' := { shown with state := if b.state = .vacant then .card else b.state }
        exec cmd s = exec cmd (s.withContexts p b' c) ∧
        (s.rowSlot p → c.inFlight = none →
          let bare : Bool := match r with
            | .error | .unknown => true
            | .written a _ => a ≠ 4
            | .data a _ => a ≠ 0 ∧ a ≠ 1 ∧ a ≠ 4 ∧ a ≠ 6
            | .absent | .ready | .busy | .accepted _ => false
          bare = true → ∃ u, exec cmd s = .next (s.replied p b' c u))) ∧
      (resumes → ∀ e, s.tariff[s.settings.unknownBand][s.currentPeriod] = some e →
        exec cmd s = exec cmd (s.withContexts p
          { shown with callUp := true, resumed := .no, bandAtAnswer := s.settings.unknownBand, state := .call,
                       rate := some e.rate, fraction := 0, callUnits := 0 } c)))

/-- A reply that comes while a record is held. READY, DATA, ERROR, an unknown status, and WRITTEN for another word
than the record's settle the record as not performed: for word 4 all k units return to W, none is debited and the
known balance stays; for another word it is cleared with no accounting. The reply then acts as it does at a position
with no record, DATA and WRITTEN for the word they name; in a slot that the part did not use, READY, ERROR, an unknown
status and DATA of another word than 0, 1, 4 and 6 do no more, and the lock stays. BUSY and ACCEPTED keep the record,
and ACCEPTED opens no second one. In FAULT, where no own request is held or the slot was not the part's, the booth
takes nothing of such a reply; a record of another word than 4 is cleared by each of them and by its own WRITTEN,
which closes the lock where the record is of origin ROW, and is kept by BUSY and ACCEPTED (R2, R95, R98, R118, R120,
R126, R127). -/
def Obligations.ReplyOfAnIdleReaderUndoesTheWrite : Prop :=
  ∀ (s : State) (p : Position) (x : InFlight) (c : Instr) (r : Reply), s.taking → (s.slot p).inFlight = some x →
    ((s.booth p).state = .fault ∨ (s.booth p).present = .yes) → replyOf c = some (p, r) →
    let b := s.booth p
    let cleared := { s.slot p with inFlight := none }
    let undoes : Bool := match r with
      | .ready | .data _ _ | .error | .unknown => true
      | .written a _ => a ≠ x.word
      | .absent | .busy | .accepted _ => false
    let bare : Bool := match r with
      | .ready | .error | .unknown => true
      | .data a _ => a ≠ 0 ∧ a ≠ 1 ∧ a ≠ 4 ∧ a ≠ 6
      | .absent | .busy | .accepted _ | .written _ _ => false
    let ends : Bool := match r with | .written a _ => a = x.word | _ => false
    let keeps : Bool := match r with | .busy | .accepted _ => true | _ => false
    (undoes = true → x.word ≠ 4 → exec c s = exec c (s.withContexts p b cleared)) ∧
    (undoes = true → x.word = 4 → ∀ n, x.prior = some n → b.known = some n → x.k ≤ n - x.value →
      b.owed + x.k ≤ 65535 →
      exec c s = exec c (s.withContexts p
        (({ b with owed := b.owed + x.k } : Booth).evaluated cleared s.settings.graceTime) cleared)) ∧
    (s.cardHere p → s.rowSlot p → bare = true →
      (x.word = 4 → ∀ n, x.prior = some n → b.known = some n → x.k ≤ n - x.value → b.owed + x.k ≤ 65535 →
        let c' := { cleared with record := none }
        ∃ t u, exec c s = .next t ∧ RepliedAt p u s t ∧ t.slot p = c' ∧
          t.booth p = ({ b with owed := b.owed + x.k } : Booth).evaluated c' s.settings.graceTime ∧
          SameReports s t ∧ t.arrears = s.arrears ∧ t.ledger = s.ledger) ∧
      (x.word ≠ 4 → ∃ u, exec c s = .next (s.replied p b cleared u))) ∧
    (keeps = true → ∃ u, exec c s = .next (s.replied p b (s.slot p) u)) ∧
    (b.state = .fault → x.word ≠ 4 → s.rowSlot p ∨ (s.slot p).held = none → undoes = true ∨ ends = true →
      ∃ u, exec c s = .next (s.replied p b
        { cleared with lock := if ends = true ∧ x.origin = .row then 0 else (s.slot p).lock } u))

/-- ACCEPTED in a slot that sent a WRITE opens the in-flight record, with the covered units moved out of W: all of
them for an own write, at most W for the row controller's, none for a PROTECTED WRITE or another word. Available
credit does not change where W covers k. In a slot that sent no WRITE it opens nothing (R58, R59, R124, R127). -/
def Obligations.AcceptedMovesCoveredUnitsOutOfW : Prop :=
  ∀ (s : State) (p : Position) (w : WordAddr) (rest : BitVec 24), s.taking →
    ((s.booth p).state = .fault ∨ (s.booth p).present = .yes) → (s.slot p).inFlight = none →
    let b := s.booth p
    let c := s.slot p
    (∀ r a v, c.record = some r → r.sent = .write a v →
      let prior := if a = 4 then b.known else none
      let k := if a = 4 then
          match b.known with
          | none => 0
          | some n => if r.origin = .own then n - v else if r.treatment = .converted then 0 else min b.owed (n - v)
        else 0
      let c' := { c with
        inFlight := some { origin := r.origin, word := a, value := v, prior := prior, k := k, frames := 0 },
        held := if r.origin = .own then none else c.held, record := none }
      ∃ t u, exec (.accepted p w rest) s = .next t ∧ RepliedAt p u s t ∧ t.slot p = c' ∧
        t.booth p = ({ b with owed := b.owed - k } : Booth).evaluated c' s.settings.graceTime ∧
        (k ≤ b.owed → t.credit p = s.credit p) ∧
        SameReports s t ∧ t.arrears = s.arrears ∧ t.ledger = s.ledger) ∧
    ((∀ r a v, c.record = some r → r.sent ≠ .write a v) →
      exec (.accepted p w rest) s =
        .next (s.replied p b c (upstream c.record none (.accepted w) ((0x130 : BitVec 12) ++ w ++ rest))))

/-- WRITTEN for the word of the held record ends it. For word 4 the extra units min(k, max(0, v − new)) return to W,
the other k − extra are debited, the known balance becomes v, and where that is a change a held own WRITE goes, and a
held READ of word 4 in a slot that the part did not use; for another word the record is cleared with no accounting. A
record of origin ROW closes the lock (R53, R55, R60, R118, R126; what a held READ does is log entry 16). -/
def Obligations.WrittenSettlesTheRecord : Prop :=
  ∀ (s : State) (p : Position) (x : InFlight) (v : Word) (last : Byte), s.cardHere p → (s.slot p).inFlight = some x →
    let b := s.booth p
    let c := s.slot p
    let own : Bool := c.record.map SlotRecord.origin = some .own
    let lock := if x.origin = .row then 0 else c.lock
    (x.word = 4 → b.pendingRes = none →
      let extra := min x.k (v.toNat - x.value)
      b.owed + extra ≤ 65535 →
      let c' := { c with
        inFlight := none, lock := lock, record := none,
        held :=
          if b.known = some v.toNat then c.held
          else if c.held.any Held.isWrite ∨
            (c.held.map Held.request = some (.read 4) ∧ ¬ own) then none
          else c.held }
      ∃ t u, exec (.written p 4 v last) s = .next t ∧ RepliedAt p u s t ∧ t.slot p = c' ∧
        t.booth p = ({ b with owed := b.owed + extra, known := some v.toNat } : Booth).evaluated c'
          s.settings.graceTime ∧
        SameReports s t ∧ t.arrears = s.arrears ∧
        t.ledger = { s.ledger with debited := s.ledger.debited + (x.k - extra) }) ∧
    (∀ a, x.word = a → a ≠ 4 →
      exec (.written p a v last) s = .next (s.replied p b { c with inFlight := none, lock := lock }
        (upstream c.record c.inFlight (.written a v) ((0x150 : BitVec 12) ++ a ++ v ++ last))))

/-- DATA for word 4, or a WRITTEN for word 4 that finds no record, makes the known balance v. A change discards a held
own WRITE and settles the pending resolution: min(k, max(0, v − new)) returns to W and the rest counts as debited. The
value already held changes nothing at the booth. A held READ of word 4 is released by DATA in the slot that carried it
and stays held there at a WRITTEN; other traffic that changes the balance discards it (R2, R53, R55, R61 to R63; log
entry 16). -/
def Obligations.BalanceLearnedSettlesThePendingResolution : Prop :=
  ∀ (s : State) (p : Position) (v : Word) (last : Byte) (data : Bool), s.cardHere p → (s.slot p).inFlight = none →
    let cmd : Instr := if data then .data p 4 v last else .written p 4 v last
    let b := s.booth p
    let c := s.slot p
    let own : Bool := c.record.map SlotRecord.origin = some .own
    let read4 : Bool := c.held.map Held.request = some (.read 4)
    (b.known = some v.toNat →
      ∃ u, exec cmd s = .next (s.replied p b { c with held := if own ∧ data ∧ read4 then none else c.held } u)) ∧
    (b.known ≠ some v.toNat →
      let k := pairK b.pendingRes
      let extra := match b.pendingRes with | some q => min q.k (v.toNat - q.new) | none => 0
      let c' := { c with
        record := none,
        held :=
          if c.held.any Held.isWrite ∨ (read4 ∧ (own → data = true)) then none
          else c.held }
      b.owed + extra ≤ 65535 →
      ∃ t u, exec cmd s = .next t ∧ RepliedAt p u s t ∧ t.slot p = c' ∧
        t.booth p = ({ b with known := some v.toNat, owed := b.owed + extra, pendingRes := none } : Booth).evaluated c'
          s.settings.graceTime ∧
        SameReports s t ∧ t.arrears = s.arrears ∧
        t.ledger = { s.ledger with debited := s.ledger.debited + (k - extra) })

/-- DATA for word 6 sets the band, a value above 15 standing for the unknown band setting; DATA for a serial half that
is already known so, and DATA for any word but 0, 1, 4 and 6, change nothing at the booth. DATA for a half that leaves
the other unknown makes the half known and discards a held READ of it. In the slot that carried it, a held READ of the
word is released by its DATA, and any other held request stays (R2, R32, R53, R55). -/
def Obligations.DataSetsBandAndSerialHalf : Prop :=
  ∀ (s : State) (p : Position) (a : WordAddr) (v : Word) (last : Byte), s.cardHere p → (s.slot p).inFlight = none →
    let b := s.booth p
    let readIt : Bool := (s.slot p).held.map Held.request = some (.read a)
    let own : Bool := (s.slot p).record.map SlotRecord.origin = some .own
    let u := upstream (s.slot p).record none (.data a v) ((0x120 : BitVec 12) ++ a ++ v ++ last)
    let c := { s.slot p with held := if own ∧ readIt then none else (s.slot p).held }
    let c' := { s.slot p with held := if readIt then none else (s.slot p).held }
    (a = 6 → exec (.data p a v last) s = .next (s.replied p
      { b with band := some (if h : v.toNat < 16 then ⟨v.toNat, h⟩ else s.settings.unknownBand) } c u)) ∧
    (a ≠ 0 → a ≠ 1 → a ≠ 4 → a ≠ 6 → exec (.data p a v last) s = .next (s.replied p b c u)) ∧
    (a = 0 → b.serialHigh = some v.toNat → exec (.data p a v last) s = .next (s.replied p b c u)) ∧
    (a = 1 → b.serialLow = some v.toNat → exec (.data p a v last) s = .next (s.replied p b c u)) ∧
    (a = 0 → b.serialHigh = none → b.serialLow = none →
      exec (.data p a v last) s = .next (s.replied p { b with serialHigh := some v.toNat } c' u)) ∧
    (a = 1 → b.serialLow = none → b.serialHigh = none →
      exec (.data p a v last) s = .next (s.replied p { b with serialLow := some v.toNat } c' u))

/-- The half that completes the serial, of either word, identifies the card. With no expected serial, or one that is
equal, the last serial follows where a call is up, and the entry the list holds for the serial is collected: removed
and reported, its units added to W. Its pair becomes the pending resolution; where the balance is known it is settled
at once, and where the booth holds a pending resolution its k is dropped as UNRESOLVED. Units above 65,535 are dropped
as SATURATED and take CALL and GRACE to CLEARING; otherwise available credit is evaluated. An expected serial that
differs makes a card change: the old card's W and pair open arrears under the expected serial, CALL passes to GRACE
with the full grace time, CARD stays CARD under a pending mode, and the new card stands identified with nothing else
known, its own entry collected. That ARREARS COLLECTED carries the k of a pair dropped as UNRESOLVED, and that
CLEAR-DOWN comes before that drop's report, is log entry 17 (DEDUCED); that the settlement of the pair places
CLEAR-DOWN where it takes the booth to CLEARING is log entry 30 (DEDUCED) (R2, R4, R7, R8, R9, R40, R62, R70, R73 to
R76, R80, R81). -/
def Obligations.IdentificationCollectsTheEntry : Prop :=
  ∀ (s : State) (p : Position) (high : Bool) (h : Nat) (v : Word) (last : Byte), s.cardHere p →
    (s.slot p).inFlight = none →
    let b := s.booth p
    let c := s.slot p
    let a : WordAddr := if high then 0 else 1
    let n := if high then v.toNat * 65536 + h else h * 65536 + v.toNat
    (if high then b.serialHigh = none ∧ b.serialLow = some h else b.serialHigh = some h ∧ b.serialLow = none) →
    let whole := { b with serialHigh := some (if high then v.toNat else h),
                          serialLow := some (if high then h else v.toNat), expected := none,
                          lastSerial := if b.callUp then some n else b.lastSerial }
    let c' := { c with record := none, held := if c.held.map Held.request = some (.read a) then none else c.held }
    let collected := fun e : ArrearsEntry =>
      ({ kind := .arrearsCollected, position := some p, serial := some n, units := e.owed, aux := pairK e.pair } : Report)
    ((b.expected = none ∨ b.expected = some n) →
      ((∀ e ∈ s.arrears, e.serial ≠ n) →
        ∃ t u, exec (.data p a v last) s = .next t ∧ RepliedAt p u s t ∧
          t.booth p = whole.evaluated c' s.settings.graceTime ∧ t.slot p = c' ∧ SameReports s t ∧
          t.arrears = s.arrears ∧ t.ledger = s.ledger) ∧
      (∀ e, s.arrears.find? (fun x => x.serial = n) = some e →
        let settled := if b.pendingRes = none ∧ b.known ≠ none then e.pair else none
        let refused := if b.pendingRes = none then none else e.pair
        let extra := match settled with
          | some q => min q.k (b.known.getD 0 - q.new)
          | none => 0
        let sum := b.owed + e.owed + extra
        let first := b.owed + e.owed - 65535
        let second := sum - 65535 - first
        let taken := { whole with
          owed := min 65535 sum,
          pendingRes := if b.pendingRes = none ∧ b.known = none then e.pair else b.pendingRes }
        let calls := b.state = .call ∨ b.state = .grace
        let dropped := fun (cause : DropCause) (units : Nat) =>
          ({ kind := .unitsDropped cause, position := some p, serial := none, units := units, aux := 0 } : Report)
        let cleared : List Report := if calls then
            [{ kind := .clearDown .saturated, position := some p, serial := none, units := 0, aux := 0 }]
          else []
        let records := collected e :: ((if 0 < first then dropped .saturated first :: cleared else []) ++
          (refused.toList.map fun q => dropped .unresolved q.k) ++
          (if 0 < second then dropped .saturated second :: (if first = 0 then cleared else []) else []))
        ∃ t u, exec (.data p a v last) s = .next t ∧ RepliedAt p u s t ∧
          t.booth p = (if calls ∧ 65535 < sum then
              { taken with state := .clearing, grace := 0, timer := some (.assert s.settings.clearDownHold) }
            else taken.evaluated c' s.settings.graceTime) ∧
          t.slot p = c' ∧ t.arrears = s.arrears.filter (fun x => x.serial ≠ n) ∧
          t.ledger = { s.ledger with
            debited := s.ledger.debited + (pairK settled - extra),
            dropped := s.ledger.dropped + (sum - 65535) + pairK refused } ∧
          (s.reports.length + records.length ≤ 32 → t.lost = s.lost ∧ t.reports = s.reports ++ records))) ∧
    (∀ e, b.expected = some e → e ≠ n → b.foundUp = false → b.state ≠ .vacant →
      (∀ q, q ≠ p → (s.booth q).holds e = false) →
      let pair := outPair c b
      let nothing : Bool := b.owed = 0 ∧ pair = none
      let list := if nothing then s.arrears else (openEntry s.arrears p e b.owed pair).entries
      let found := list.find? (fun x => x.serial = n)
      (∀ x, found = some x → x.owed ≤ 65535) →
      ∃ t u, exec (.data p a v last) s = .next t ∧ t.port = s.port.afterReply p u ∧ SameTables s t ∧ SameClocks s t ∧
        OtherBooths p s t ∧ OtherSlots p s t ∧
        t.slot p = { c with inFlight := none, lock := 0, held := none, record := none } ∧
        t.booth p = { whole with
          known := none, band := none, owed := (found.map ArrearsEntry.owed).getD 0,
          pendingRes := found.bind ArrearsEntry.pair,
          mode := if b.state = .card then b.pendingMode.getD b.mode else b.mode,
          pendingMode := if b.state = .card then none else b.pendingMode,
          resumed := if b.state = .card ∧ b.mode = .free ∧ b.pendingMode = some .charged then .no else b.resumed,
          state := if b.state = .call then .grace else b.state,
          grace := if b.state = .call then s.settings.graceTime * 10 else b.grace } ∧
        t.arrears = list.filter (fun x => x.serial ≠ n) ∧
        ((∀ x ∈ s.arrears, x.serial ≠ e) → s.arrears.length < 32 → s.reports.length + 2 ≤ 32 →
          t.ledger = s.ledger ∧ t.lost = s.lost ∧
          t.reports = s.reports ++
            (if nothing then []
             else [{ kind := .arrearsOpened, position := some p, serial := some e, units := b.owed,
                     aux := if pair.isSome then 1 else 0 }]) ++
            found.toList.map collected))

/-- A serial half that contradicts the known one, of either word, is a card change: the old card's units and pair
leave the booth, the lock closes, the record and the held request go, and the card present holds only the half just
read. CALL passes to GRACE with the full grace time, CARD stays CARD under a pending mode, and the other states stay.
With nothing owed nothing is opened or reported. Otherwise the debt goes under the serial of the old card, else the
expected serial, else the last serial with a call up: into the list where no other booth holds it, and with none of
them it is dropped as NO SERIAL, a sum above 65,535 in two records (R8, R9, R70, R73 to R76, R118, R165). -/
def Obligations.ContradictingHalfIsACardChange : Prop :=
  ∀ (s : State) (p : Position) (high : Bool) (w : Nat) (v : Word) (last : Byte), s.cardHere p →
    (s.slot p).inFlight = none → (if high then (s.booth p).serialHigh else (s.booth p).serialLow) = some w →
    w ≠ v.toNat → (s.booth p).foundUp = false → (s.booth p).state ≠ .vacant →
    let b := s.booth p
    let pair := outPair (s.slot p) b
    let debt := match b.serialHigh, b.serialLow with
      | some h, some l => some (h * 65536 + l)
      | _, _ => match b.expected with
        | some n => some n
        | none => if b.callUp = true then b.lastSerial else none
    let sum := b.owed + pairK pair
    let dropped := fun n : Nat =>
      ({ kind := .unitsDropped .noSerial, position := some p, serial := none, units := n, aux := 0 } : Report)
    ∃ t u, exec (.data p (if high then 0 else 1) v last) s = .next t ∧ t.port = s.port.afterReply p u ∧
      SameTables s t ∧ SameClocks s t ∧
      t.slot p = { s.slot p with inFlight := none, lock := 0, held := none, record := none } ∧
      (t.booth p).present = .yes ∧ (t.booth p).serialHigh = (if high then some v.toNat else none) ∧
      (t.booth p).serialLow = (if high then none else some v.toNat) ∧
      (t.booth p).expected = none ∧ (t.booth p).known = none ∧ (t.booth p).band = none ∧ (t.booth p).owed = 0 ∧
      (t.booth p).pendingRes = none ∧ (t.booth p).callUp = (s.booth p).callUp ∧ (t.booth p).rate = (s.booth p).rate ∧
      (t.booth p).fraction = (s.booth p).fraction ∧ (t.booth p).callUnits = (s.booth p).callUnits ∧
      (t.booth p).lastSerial = (s.booth p).lastSerial ∧ (t.booth p).timer = (s.booth p).timer ∧
      ((s.booth p).state = .call →
        (t.booth p).state = .grace ∧ (t.booth p).grace = s.settings.graceTime * 10) ∧
      ((s.booth p).state = .card → (t.booth p).state = .card ∧ (t.booth p).pendingMode = none ∧
        (t.booth p).mode = (s.booth p).pendingMode.getD (s.booth p).mode) ∧
      ((s.booth p).state ≠ .call → (s.booth p).state ≠ .card →
        (t.booth p).state = (s.booth p).state ∧ (t.booth p).grace = (s.booth p).grace) ∧
      ((s.booth p).owed = 0 → outPair (s.slot p) (s.booth p) = none →
        OtherBooths p s t ∧ OtherSlots p s t ∧ SameReports s t ∧ t.arrears = s.arrears ∧ t.ledger = s.ledger) ∧
      (∀ n, debt = some n → 0 < b.owed ∨ pair.isSome = true → (∀ q, q ≠ p → (s.booth q).holds n = false) →
        OtherBooths p s t ∧ OtherSlots p s t ∧ t.arrears = (openEntry s.arrears p n b.owed pair).entries ∧
        ((∀ x ∈ s.arrears, x.serial ≠ n) → s.arrears.length < 32 → s.reports.length < 32 →
          t.ledger = s.ledger ∧ t.lost = s.lost ∧
          t.reports = s.reports ++
            [{ kind := .arrearsOpened, position := some p, serial := some n, units := b.owed,
               aux := if pair.isSome then 1 else 0 }])) ∧
      (debt = none → 0 < sum → s.reports.length + 2 ≤ 32 →
        OtherBooths p s t ∧ OtherSlots p s t ∧ t.arrears = s.arrears ∧ t.lost = s.lost ∧
        t.ledger = { s.ledger with dropped := s.ledger.dropped + sum } ∧
        t.reports = s.reports ++ (if sum ≤ 65535 then [dropped sum] else [dropped 65535, dropped (sum - 65535)]))

/-- ERROR to a held own request counts one try: below three the request stays held and nothing else changes; the third
enters FAULT. ERROR to the row controller's request counts none (R54, R98, R150). -/
def Obligations.ThirdErrorOnAHeldRequestIsAFault : Prop :=
  ∀ (s : State) (p : Position) (h : Held) (rest : BitVec 28), s.cardHere p → (s.slot p).inFlight = none →
    (s.slot p).held = some h →
    let b := s.booth p
    let c := s.slot p
    let u := upstream c.record none .error ((0x160 : BitVec 12) ++ rest)
    (s.rowSlot p → exec (.error p rest) s = .next (s.replied p b c u)) ∧
    (¬ s.rowSlot p → h.tries + 1 < 3 →
      exec (.error p rest) s = .next (s.replied p b { c with held := some { h with tries := h.tries + 1 } } u)) ∧
    (¬ s.rowSlot p → 3 ≤ h.tries + 1 →
      ∃ t, exec (.error p rest) s = .next t ∧ (t.booth p).state = .fault ∧ (t.slot p).held = none ∧
        (t.slot p).lock = c.lock ∧ t.port = s.port.afterReply p u)

/-- FAULT entry, by a write timeout: the serial, the expected serial and the known balance are forgotten, W and the
pair leave, the record and the held request go, the lock stays; with a call up the rate, the fraction and the call
units stay and the clear-down cycle runs. The debt goes under the serial, else the expected serial, else the last
serial with a call up: into the list where no other booth holds it, and with none of them it is dropped as NO SERIAL,
a sum above 65,535 in two records; with nothing owed nothing goes. The reports are READER FAULT, those of the debt,
and, with a call up, CLEAR-DOWN. In FAULT a further fault reports and clears the record only. A record below its last
frame does not time out (the model's choice, log entry 6) (R9, R18, R70, R73 to R76, R149, R151, R152, R165). -/
def Obligations.FaultEntryForgetsTheCard : Prop :=
  ∀ (s : State) (p : Position), s.running →
    let b := s.booth p
    let c := s.slot p
    let pair := outPair c b
    let debt := match b.serialHigh, b.serialLow with
      | some h, some l => some (h * 65536 + l)
      | _, _ => match b.expected with
        | some n => some n
        | none => if b.callUp = true then b.lastSerial else none
    let sum := b.owed + pairK pair
    let dropped := fun n : Nat =>
      ({ kind := .unitsDropped .noSerial, position := some p, serial := none, units := n, aux := 0 } : Report)
    let fault : Report := { kind := .readerFault, position := some p, serial := none, units := 0, aux := 0 }
    let cleared : List Report := if b.callUp then
        [{ kind := .clearDown .readerFault, position := some p, serial := none, units := 0, aux := 0 }]
      else []
    (∀ x, c.inFlight = some x → 16 ≤ x.frames + 1 → b.state ≠ .fault →
      ∃ t, exec (.writeTimeout p) s = .next t ∧ SameRest s t ∧
        t.booth p = { b with
          serialHigh := none, serialLow := none, expected := none, known := none, present := .yes, owed := 0,
          pendingRes := none, state := .fault, grace := 0,
          timer := if b.callUp ∧ b.timer = none then some (.assert s.settings.clearDownHold) else b.timer } ∧
        t.slot p = { c with inFlight := none, held := none } ∧
        (b.owed = 0 → pair = none → s.reports.length + 2 ≤ 32 →
          t.arrears = s.arrears ∧ t.ledger = s.ledger ∧ OtherBooths p s t ∧ OtherSlots p s t ∧
          t.reports = s.reports ++ fault :: cleared) ∧
        (∀ n, debt = some n → 0 < b.owed ∨ pair.isSome = true → (∀ q, q ≠ p → (s.booth q).holds n = false) →
          OtherBooths p s t ∧ OtherSlots p s t ∧ t.arrears = (openEntry s.arrears p n b.owed pair).entries ∧
          ((∀ x ∈ s.arrears, x.serial ≠ n) → s.arrears.length < 32 → s.reports.length + 3 ≤ 32 →
            t.ledger = s.ledger ∧ t.lost = s.lost ∧
            t.reports = s.reports ++ fault ::
              { kind := .arrearsOpened, position := some p, serial := some n, units := b.owed,
                aux := if pair.isSome then 1 else 0 } :: cleared)) ∧
        (debt = none → 0 < sum → s.reports.length + 4 ≤ 32 →
          OtherBooths p s t ∧ OtherSlots p s t ∧ t.arrears = s.arrears ∧ t.lost = s.lost ∧
          t.ledger = { s.ledger with dropped := s.ledger.dropped + sum } ∧
          t.reports = s.reports ++ fault ::
            ((if sum ≤ 65535 then [dropped sum] else [dropped 65535, dropped (sum - 65535)]) ++ cleared))) ∧
    (∀ x, c.inFlight = some x → 16 ≤ x.frames + 1 → b.state = .fault →
      exec (.writeTimeout p) s = .next ((s.withContexts p b { c with inFlight := none }).place fault)) ∧
    ((∀ x, c.inFlight = some x → x.frames + 1 < 16) → exec (.writeTimeout p) s = .next s)

/-- A status that is none of the seven acts on the part's state as ERROR does, and is shown upstream as received where
ERROR would be shown (R98, R120). -/
def Obligations.UnknownStatusActsAsError : Prop :=
  ∀ (s : State) (p : Position) (bytes : SlotBytes) (rest : BitVec 28), s.taking →
    ∃ t, exec (.error p rest) s = .next t ∧
      exec (.unknownStatus p bytes) s = .next { t with
        port := s.port.afterReply p (upstream (s.slot p).record (s.slot p).inFlight .unknown bytes) } ∧
      t.port =
        s.port.afterReply p (upstream (s.slot p).record (s.slot p).inFlight .error ((0x160 : BitVec 12) ++ rest))

/-- ABSENT at a booth with its card present and no fault is card removal: the card's fields are cleared, W and the
pair leave the booth, the lock closes, the record and the held request go, CARD goes to VACANT with its pending mode
applied, CALL to GRACE with the full grace time, and a call in progress keeps what it is charged by. With nothing owed
nothing is opened or reported (R4, R9, R55, R118, R126). -/
def Obligations.AbsentRemovesTheCard : Prop :=
  ∀ (s : State) (p : Position) (rest : BitVec 28), s.cardHere p →
    let b := s.booth p
    ∃ t u, exec (.absent p rest) s = .next t ∧ t.port = s.port.afterReply p u ∧ SameTables s t ∧ SameClocks s t ∧
      t.slot p = { inFlight := none, lock := 0, held := none, record := none } ∧
      (t.booth p).present = .no ∧ (t.booth p).serialHigh = none ∧ (t.booth p).serialLow = none ∧
      (t.booth p).expected = none ∧ (t.booth p).known = none ∧ (t.booth p).band = none ∧ (t.booth p).owed = 0 ∧
      (t.booth p).pendingRes = none ∧ (t.booth p).callUp = b.callUp ∧ (t.booth p).rate = b.rate ∧
      (t.booth p).fraction = b.fraction ∧ (t.booth p).callUnits = b.callUnits ∧ (t.booth p).lastSerial = b.lastSerial ∧
      (t.booth p).bandAtAnswer = b.bandAtAnswer ∧ (t.booth p).timer = b.timer ∧
      (b.state = .card → (t.booth p).state = .vacant ∧ (t.booth p).pendingMode = none ∧
        (t.booth p).mode = b.pendingMode.getD b.mode) ∧
      (b.state = .call → (t.booth p).state = .grace ∧ (t.booth p).grace = s.settings.graceTime * 10) ∧
      (b.state ≠ .card → (t.booth p).mode = b.mode ∧ (t.booth p).pendingMode = b.pendingMode) ∧
      (b.state ≠ .card → b.state ≠ .call → (t.booth p).state = b.state ∧ (t.booth p).grace = b.grace) ∧
      (b.owed = 0 → outPair (s.slot p) b = none →
        OtherBooths p s t ∧ OtherSlots p s t ∧ SameReports s t ∧ t.arrears = s.arrears ∧ t.ledger = s.ledger)

/-- A removal's debt, with a debt serial that no other booth holds identified, is opened in the list: a merge into the
entry of that serial, moved to the newest place with age 0, or a new entry at the newest place, the oldest being
evicted from a full list. The ARREARS OPENED record carries the units as offered. A merge above 65,535 units leaves
65,535 and drops the excess as SATURATED, one of a pair into an entry that holds one drops the k offered as
UNRESOLVED, and an evicted entry of more than 65,535 units is reported in two records (R9, R70, R73 to R76). -/
def Obligations.RemovalOpensArrearsInTheList : Prop :=
  ∀ (s : State) (p : Position) (n : Nat) (w : BitVec 28), s.cardHere p →
    let b := s.booth p
    let pair := outPair (s.slot p) b
    b.debtSerial = some n → (0 < b.owed ∨ pair.isSome) → (∀ q, q ≠ p → (s.booth q).holds n = false) →
    s.reports.length + 3 ≤ 32 →
    let opened : Report := { kind := .arrearsOpened, position := some p, serial := some n, units := b.owed,
                             aux := if pair.isSome then 1 else 0 }
    (∀ e, s.arrears.find? (fun x => x.serial = n) = some e →
      let excess := e.owed + b.owed - 65535
      let unresolved := if e.pair.isSome then pairK pair else 0
      let dropped := fun (cause : DropCause) (units : Nat) =>
        ({ kind := .unitsDropped cause, position := some p, serial := none, units := units, aux := 0 } : Report)
      ∃ t, exec (.absent p w) s = .next t ∧
        t.arrears = s.arrears.filter (fun x => x.serial ≠ n) ++
          [{ serial := n, owed := min 65535 (e.owed + b.owed), pair := if e.pair.isSome then e.pair else pair, age := 0,
             origin := p }] ∧
        t.reports = s.reports ++ opened ::
          ((if 0 < excess then [dropped .saturated excess] else []) ++
            (if e.pair.isSome ∧ pair.isSome then [dropped .unresolved unresolved] else [])) ∧
        t.lost = s.lost ∧ t.ledger = { s.ledger with dropped := s.ledger.dropped + (excess + unresolved) }) ∧
    ((∀ e ∈ s.arrears, e.serial ≠ n) → s.arrears.length < 32 →
      ∃ t, exec (.absent p w) s = .next t ∧
        t.arrears = s.arrears ++ [{ serial := n, owed := b.owed, pair := pair, age := 0, origin := p }] ∧
        t.reports = s.reports ++ [opened] ∧ t.lost = s.lost ∧ t.ledger = s.ledger) ∧
    (∀ e rest, (∀ x ∈ s.arrears, x.serial ≠ n) → s.arrears = e :: rest → 32 ≤ s.arrears.length →
      let evicted := fun (units aux : Nat) =>
        ({ kind := .arrearsDropped .evicted, position := some e.origin, serial := some e.serial, units := units,
           aux := aux } : Report)
      ∃ t, exec (.absent p w) s = .next t ∧
        t.arrears = rest ++ [{ serial := n, owed := b.owed, pair := pair, age := 0, origin := p }] ∧
        t.reports = s.reports ++ evicted (min 65535 e.units) (pairK e.pair) ::
          ((if 65535 < e.units then [evicted (e.units - 65535) 0] else []) ++ [opened]) ∧
        t.lost = s.lost ∧ t.ledger = { s.ledger with dropped := s.ledger.dropped + e.units })

/-- A removal's debt whose serial another booth holds identified does not enter the list: the lowest such booth takes
the units in W and the pair as its pending resolution, settled at once where its balance is known, and two records
name the transfer. A booth that already holds a pending resolution keeps its own, and the k offered is dropped as
UNRESOLVED. Available credit is then evaluated there (R12, R14, R62, R71, R76). -/
def Obligations.RemovalTransfersToTheBoothThatHoldsTheSerial : Prop :=
  ∀ (s : State) (p r : Position) (n : Nat) (rest : BitVec 28), s.cardHere p →
    let b := s.booth p
    let pair := outPair (s.slot p) b
    b.debtSerial = some n → (0 < b.owed ∨ pair.isSome) → r ≠ p → (s.booth r).holds n = true →
    (∀ q, q ≠ p → q < r → (s.booth q).holds n = false) →
    let g := s.booth r
    let extra := match pair, g.pendingRes, g.known with
      | some x, none, some m => min x.k (m - x.new)
      | _, _, _ => 0
    let refused : Bool := pair.isSome ∧ g.pendingRes.isSome
    let taken : Bool := pair.isSome ∧ g.pendingRes.isNone
    s.reports.length + 2 + (if refused then 1 else 0) ≤ 32 → g.owed + b.owed + extra ≤ 65535 →
    ∃ t, exec (.absent p rest) s = .next t ∧ t.arrears = s.arrears ∧ t.lost = s.lost ∧
      t.ledger = { s.ledger with
        debited := s.ledger.debited + (if taken ∧ g.known.isSome then pairK pair - extra else 0),
        dropped := s.ledger.dropped + (if refused then pairK pair else 0) } ∧
      t.booth r = ({ g with
        owed := g.owed + b.owed + extra,
        pendingRes := if taken ∧ g.known.isNone then pair else g.pendingRes } : Booth).evaluated (s.slot r)
          s.settings.graceTime ∧
      t.slot r = s.slot r ∧ (∀ q, q ≠ p → q ≠ r → t.booth q = s.booth q) ∧
      t.reports = s.reports ++
        [{ kind := .arrearsOpened, position := some p, serial := some n, units := b.owed,
           aux := if pair.isSome then 1 else 0 },
         { kind := .arrearsCollected, position := some r, serial := some n, units := b.owed,
           aux := if taken then pairK pair else 0 }] ++
        (if refused then
          [{ kind := .unitsDropped .unresolved, position := some r, serial := none, units := pairK pair, aux := 0 }]
        else [])

/-- A removal's debt with no debt serial is dropped with UNITS DROPPED, cause NO SERIAL, W and the pair's k together;
a sum above 65,535 takes a second record (R9, R66, R165). -/
def Obligations.RemovalWithoutSerialDropsTheUnits : Prop :=
  ∀ (s : State) (p : Position) (rest : BitVec 28), s.cardHere p → (s.booth p).debtSerial = none →
    s.reports.length + 2 ≤ 32 →
    let sum := (s.booth p).owed + pairK (outPair (s.slot p) (s.booth p))
    let dropped := fun n : Nat =>
      ({ kind := .unitsDropped .noSerial, position := some p, serial := none, units := n, aux := 0 } : Report)
    0 < sum →
    ∃ t, exec (.absent p rest) s = .next t ∧ t.arrears = s.arrears ∧ OtherBooths p s t ∧ t.lost = s.lost ∧
      t.ledger = { s.ledger with dropped := s.ledger.dropped + sum } ∧
      t.reports = s.reports ++ (if sum ≤ 65535 then [dropped sum] else [dropped 65535, dropped (sum - 65535)])

/-- ABSENT in FAULT ends it: VACANT with no card, the call fields cleared, a pending mode applied, the record, the
lock and the held request gone. The W accrued since FAULT entry opens arrears under the last serial, in the list where
no booth holds it, or is dropped as NO SERIAL; with a call up one CALL END record follows (R4, R19, R73 to R76, R118,
R153). -/
def Obligations.AbsentEndsFault : Prop :=
  ∀ (s : State) (p : Position) (rest : BitVec 28), s.taking → (s.booth p).state = .fault →
    let b := s.booth p
    let ended : List Report := if b.callUp then
        [{ kind := .callEnd, position := some p, serial := b.lastSerial, units := b.callUnits,
           aux := b.bandAtAnswer.val }]
      else []
    ∃ t u, exec (.absent p rest) s = .next t ∧ t.port = s.port.afterReply p u ∧ SameTables s t ∧ SameClocks s t ∧
      t.slot p = { inFlight := none, lock := 0, held := none, record := none } ∧
      (t.booth p).state = .vacant ∧ (t.booth p).present = .no ∧ (t.booth p).owed = 0 ∧ (t.booth p).callUp = false ∧
      (t.booth p).rate = none ∧ (t.booth p).fraction = 0 ∧ (t.booth p).lastSerial = none ∧ (t.booth p).timer = none ∧
      (t.booth p).mode = b.pendingMode.getD b.mode ∧ (t.booth p).pendingMode = none ∧
      (b.owed = 0 → s.reports.length < 32 →
        OtherBooths p s t ∧ OtherSlots p s t ∧ t.arrears = s.arrears ∧ t.ledger = s.ledger ∧ t.lost = s.lost ∧
        t.reports = s.reports ++ ended) ∧
      (∀ n, 0 < b.owed → b.lastSerial = some n → (∀ q, q ≠ p → (s.booth q).holds n = false) →
        OtherBooths p s t ∧ OtherSlots p s t ∧ t.arrears = (openEntry s.arrears p n b.owed none).entries ∧
        ((∀ x ∈ s.arrears, x.serial ≠ n) → s.arrears.length < 32 → s.reports.length + 2 ≤ 32 →
          t.ledger = s.ledger ∧ t.lost = s.lost ∧
          t.reports = s.reports ++
            { kind := .arrearsOpened, position := some p, serial := some n, units := b.owed, aux := 0 } :: ended)) ∧
      (0 < b.owed → b.owed ≤ 65535 → b.lastSerial = none → s.reports.length + 2 ≤ 32 →
        OtherBooths p s t ∧ OtherSlots p s t ∧ t.arrears = s.arrears ∧ t.lost = s.lost ∧
        t.ledger = { s.ledger with dropped := s.ledger.dropped + b.owed } ∧
        t.reports = s.reports ++
          { kind := .unitsDropped .noSerial, position := some p, serial := none, units := b.owed, aux := 0 } :: ended)

/-- ABSENT where no card is present changes nothing at the booth but an unknown presence, which becomes no, and ends
an in-flight record (the model's choice, log entry 15). A booth that waits for its card state with a call found up
then starts the resumed call: GRACE with the full grace time at the unknown band's rate, or CLEARING with TARIFF UNSET
(R2, R20, R21). That the call starts at the unknown band also where a band was read, which then stays at the booth, is
log entry 29 (DEDUCED); that at an UNSET entry it keeps fraction and call units and sets resumed to NO is log entry 13
(DEDUCED). -/
def Obligations.AbsentWithoutCard : Prop :=
  ∀ (s : State) (p : Position) (rest : BitVec 28), s.taking → (s.booth p).state ≠ .fault →
    let b := s.booth p
    let c := { s.slot p with inFlight := none }
    let u := upstream (s.slot p).record none .absent ((0x100 : BitVec 12) ++ rest)
    (b.present = .no → exec (.absent p rest) s = .next (s.replied p b c u)) ∧
    (b.present = .unknown → b.foundUp = false →
      exec (.absent p rest) s = .next (s.replied p { b with present := .no } c u)) ∧
    (b.present = .unknown → b.foundUp = true → b.serialHigh = none →
      let band := s.settings.unknownBand
      let b' := { b with present := .no, callUp := true, resumed := .no, bandAtAnswer := band }
      (∀ e, s.tariff[band][s.currentPeriod] = some e →
        exec (.absent p rest) s = .next (s.replied p
          { b' with state := .grace, rate := some e.rate, fraction := 0, callUnits := 0,
                    grace := s.settings.graceTime * 10 } c u)) ∧
      (s.tariff[band][s.currentPeriod] = none →
        exec (.absent p rest) s = .next ((s.replied p
          { b' with state := .clearing, rate := none, grace := 0,
                    timer := some (.assert s.settings.clearDownHold) } c u).place
          { kind := .clearDown .tariffUnset, position := some p, serial := none, units := 0, aux := 0 })))

/-! ## Frames and the highway -/

/-- A frame start with no frame in progress begins a frame: the outputs start afresh, the frame sync is re-emitted at
the strap's active level, the frame timer restarts from 0, and nothing else changes. While a reset is asserted no
frame start is taken (R87, R89, R92, R142). -/
def Obligations.FrameStartBeginsAFrame : Prop :=
  ∀ (s : State) (cut : Nat),
    (s.running → s.port.inProgress = false →
      exec (.frameStart cut) s = .next { s with
        port := { inProgress := true, frameNumber := s.port.frameNumber, byteTime := 0, trailerDue := true,
                  trailerRecord := none, recordHeld := false, downSync := s.strap, downHeader := none,
                  downSlots := Vector.replicate 24 none, downTrailer := none, upHeader := none,
                  upSlots := Vector.replicate 24 none, upTrailer := [] },
        sup := { s.sup with frameTimer := some 0 } }) ∧
    (s.resetAsserted = true → exec (.frameStart cut) s = .next s)

/-- A frame start in a frame cuts it. Slot by slot: an answered slot stays; a request not emitted whole counts as not
sent, an own request sent there first being held no longer; an unanswered write opens its in-flight record as at
ACCEPTED, its k moved out of W; any other unanswered request changes nothing (R58, R59, R90, R93, R94, R105). That
what was emitted follows from the later of the operand and the byte time of the events taken, and that a held request
is undone which was held from its arrival, are the model's choices (log entry 9). -/
def Obligations.FrameStartCutsTheFrameInProgress : Prop :=
  ∀ (s : State) (cut : Nat), s.taking →
    ∃ t, exec (.frameStart cut) s = .next t ∧ SameReports s t ∧ SameTables s t ∧ t.arrears = s.arrears ∧
      t.ledger = s.ledger ∧ t.sup = { s.sup with frameTimer := some 0 } ∧
      t.port = { Port.reset with inProgress := true, frameNumber := s.port.frameNumber, trailerDue := true,
                                 downSync := s.strap } ∧
      ∀ p : Position,
        let b := s.booth p
        let c := s.slot p
        let emitted := 17 + 5 * p.val ≤ max cut s.port.byteTime
        (c.record = none → t.booth p = b ∧ t.slot p = c) ∧
        (∀ r, c.record = some r → ¬ emitted →
          t.booth p = b ∧
          t.slot p = { c with record := none, held := if r.treatment = .inserted true then none else c.held }) ∧
        (∀ r, c.record = some r → emitted → (∀ a v, r.sent ≠ .write a v) →
          t.booth p = b ∧ t.slot p = { c with record := none }) ∧
        (∀ r a v, c.record = some r → emitted → r.sent = .write a v →
          let prior := if a = 4 then b.known else none
          let k := if a = 4 then
              match b.known with
              | none => 0
              | some n => if r.origin = .own then n - v else if r.treatment = .converted then 0 else min b.owed (n - v)
            else 0
          let c' := { c with
            inFlight := some { origin := r.origin, word := a, value := v, prior := prior, k := k, frames := 0 },
            held := if r.origin = .own then none else c.held, record := none }
          t.booth p = ({ b with owed := b.owed - k } : Booth).evaluated c' s.settings.graceTime ∧ t.slot p = c')

/-- A header received whole sets the frame number last seen and the upstream echo, its minute becomes the minute of
day where it is below 1,440, its RESTART flag empties the queue, zeroes the lost count and closes every lock, and then
its table word, where TABLE WORD PRESENT is set, acts as the command it spells, or not at all with another kind code.
The header's ten bytes are re-emitted unchanged (R26, R96, R118, R154, R161, R174, R176). -/
def Obligations.HeaderFieldsAreTaken : Prop :=
  ∀ (s : State) (frame : Byte) (minute : Word) (flags : Byte) (table : TableBytes), s.taking →
    let u : State := { s with
      minute := if minute.toNat < 1440 then some minute.toNat else s.minute,
      reports := if flags.getLsbD 0 then [] else s.reports,
      lost := if flags.getLsbD 0 then 0 else s.lost,
      slots := if flags.getLsbD 0 then s.slots.map (fun c => { c with lock := 0 }) else s.slots,
      port := { s.port with byteTime := max s.port.byteTime 10, frameNumber := some frame, upHeader := some frame,
                            downHeader := some (frame ++ minute ++ flags ++ table),
                            recordHeld := if flags.getLsbD 0 then false else s.port.recordHeld } }
    exec (.headerArrival frame minute flags table) s =
      if flags.getLsbD 1 then
        match table.extractLsb' 40 8, table.extractLsb' 32 8, table.extractLsb' 24 8, table.extractLsb' 16 8,
          table.extractLsb' 8 8 with
        | 1, band, period, charge, _ => exec (.tariff band period charge (table.extractLsb' 0 16)) u
        | 2, slot, _, _, period => exec (.schedule slot (table.extractLsb' 16 16) period) u
        | 3, number, _, _, _ => exec (.setting number (table.extractLsb' 16 16)) u
        | 4, number, mode, _, _ => exec (.position number mode) u
        | _, _, _, _, _ => .next u
      else .next u

/-- A frame end at which no record reaches 16 frames lowers every open lock by 1, places LOCK EXPIRED for each lock
that reaches 0, raises every record's frame count by 1 and clears the slot records; the downstream trailer has been
re-emitted as received. The highway goes from WAITING to RUNNING with no report, and from LOST and LONG LOST to
RUNNING with HIGHWAY RESTORED and the loss duration (R90, R92, R105, R117, R125, R143, R147, R174). That the LOCK
EXPIRED records come by position, all before HIGHWAY RESTORED, is the model's choice (log entry 8). Where RUNNING is
so entered with the frame timer expired, the highway is lost again at once, after all else: the state is that of the
frame end with a timer not expired, followed by an expiry, HIGHWAY LOST comes last and a new loss begins (R142, R144,
R147). -/
def Obligations.FrameEndCountsFramesAndRestores : Prop :=
  ∀ (s : State) (trailer : TenBytes), s.taking →
    let counted := fun p : Position => { s.slot p with
      lock := (s.slot p).lock - 1,
      inFlight := (s.slot p).inFlight.map fun x => { x with frames := x.frames + 1 },
      record := none }
    let port := { s.port with byteTime := max s.port.byteTime 152, inProgress := false, downTrailer := some trailer }
    let records := ((positions.filter fun p => (s.slot p).lock = 1).map fun p =>
        ({ kind := .lockExpired, position := some p, serial := none, units := 0, aux := 0 } : Report)) ++
      (match s.sup.highway with
        | .running | .waiting => []
        | .lost | .longLost =>
          [{ kind := .highwayRestored, position := none, serial := none, units := 0, aux := s.sup.lossDuration }])
    let losesAgain := s.sup.highway ≠ .running ∧ s.sup.frameTimer = some 24576
    (¬ losesAgain → (∀ p x, (s.slot p).inFlight = some x → x.frames + 1 < 16) → s.reports.length + 25 ≤ 32 →
      ∃ t, exec (.frameEnd trailer) s = .next t ∧ SameTables s t ∧ t.arrears = s.arrears ∧ t.ledger = s.ledger ∧
        t.lost = s.lost ∧ t.port = port ∧ (∀ p, t.booth p = s.booth p) ∧ (∀ p, t.slot p = counted p) ∧
        t.reports = s.reports ++ records ∧
        (match s.sup.highway with
          | .running => t.sup = s.sup
          | .waiting => t.sup = { s.sup with highway := .running }
          | .lost | .longLost => t.sup = { s.sup with highway := .running, lossTimer := none })) ∧
    (losesAgain →
      (∃ u, exec (.frameEnd trailer) { s with sup := { s.sup with frameTimer := some 0 } } = .next u ∧
        exec (.frameEnd trailer) s = exec (.frameTimeout 0) u) ∧
      ((∀ p x, (s.slot p).inFlight = some x → x.frames + 1 < 16) → s.reports.length + 26 ≤ 32 →
        ∃ t, exec (.frameEnd trailer) s = .next t ∧ SameTables s t ∧ t.arrears = s.arrears ∧ t.ledger = s.ledger ∧
          t.lost = s.lost ∧ t.port = port ∧
          (∀ p, t.slot p = { inFlight := none, held := none, lock := 0, record := none }) ∧
          t.reports = s.reports ++ records ++
            [{ kind := .highwayLost, position := none, serial := none, units := 0, aux := 0 }] ∧
          t.sup = { highway := .lost, frameTimer := some 24576, lossTimer := some 0, lossDuration := 0 }))

/-- A record that reaches 16 frames at a frame end is a write timeout: the position stands in FAULT with no record
afterwards (R125, R149, R151, R152). -/
def Obligations.SixteenFramesMakeAReaderFault : Prop :=
  ∀ (s : State) (p : Position) (x : InFlight) (trailer : TenBytes), s.taking → (s.slot p).inFlight = some x →
    15 ≤ x.frames →
    ∃ t, exec (.frameEnd trailer) s = .next t ∧ (t.booth p).state = .fault ∧ (t.slot p).inFlight = none

/-- A lock at 1 expires at a frame end with LOCK EXPIRED; taken alone, the command expires no other lock, and a
trailer that is not due is not sent (the model's choices, log entries 6 and 7). A trailer that is due takes the oldest
record, or EMPTY, when its record field begins, in its kind's layout (12.5, R177); the record leaves the queue when
its eight bytes have gone, and not before; the lost count and the level follow as they stand when they are emitted, so
a record placed after the field began counts in the level and waits for a later trailer (R103, R117, R167, R174). That
a trailer may be sent in several commands is the model's choice (log entry 10), and so is the 0 in bits 5 and 6 of
byte 7 of the serial layout, of which 12.5 says nothing (log entry 28). -/
def Obligations.LockExpiryAndTrailer : Prop :=
  ∀ (s : State) (p : Position) (sent : Nat), s.running →
    ((s.slot p).lock = 1 → exec (.lockExpired p) s =
      .next ((s.withContexts p (s.booth p) { s.slot p with lock := 0 }).place
        { kind := .lockExpired, position := some p, serial := none, units := 0, aux := 0 })) ∧
    ((s.slot p).lock ≠ 1 → exec (.lockExpired p) s = .next s) ∧
    (s.port.trailerDue = false → exec (.trailerRecord sent) s = .next s) ∧
    (s.port.trailerDue = true →
      let byte := fun n : Nat => BitVec.ofNat 8 n
      let two := fun n : Nat => [BitVec.ofNat 8 (n / 256), BitVec.ofNat 8 n]
      let four := fun n : Nat => two (n / 65536) ++ two n
      let bytes : Report → List Byte := fun r =>
        let place := match r.position with | some q => q.val | none => 0
        let short := fun code : Nat =>
          [byte code, match r.position with | some q => byte q.val | none => 255] ++ two r.units ++ two r.aux ++
            (if r.kind = .warmRestart then two (r.units / 65536) else [0, 0])
        let serial := fun code : Nat =>
          [byte code] ++ four (r.serial.getD 0) ++ two r.units ++ [byte (if r.serial.isSome then 128 + place else place)]
        let entry := fun code : Nat =>
          [byte (code + place)] ++ four (r.serial.getD 0) ++ two r.units ++ [byte (min r.aux 255)]
        match r.kind with
        | .callEnd => serial (0x10 + r.aux)
        | .arrearsOpened => serial (0x20 + r.aux)
        | .refusedWrite .issuer => short 0x31
        | .refusedWrite .free => short 0x32
        | .refusedWrite .unknown => short 0x33
        | .refusedWrite .raise => short 0x34
        | .refusedWrite .excess => short 0x35
        | .refusedWrite .complement => short 0x36
        | .refusedWrite .engaged => short 0x37
        | .refusedWrite .kind => short 0x38
        | .unitsDropped .noSerial => short 0x41
        | .unitsDropped .saturated => short 0x42
        | .unitsDropped .unresolved => short 0x43
        | .clearDown .tariffUnset => short 0x51
        | .clearDown .graceExpired => short 0x52
        | .clearDown .saturated => short 0x53
        | .clearDown .highwayLost => short 0x54
        | .clearDown .readerFault => short 0x55
        | .readerFault => short 0x60
        | .lockExpired => short 0x61
        | .highwayLost => short 0x62
        | .highwayRestored => short 0x63
        | .warmRestart => short 0x64
        | .arrearsCollected => entry 0x80
        | .arrearsDropped .evicted => entry 0xA0
        | .arrearsDropped .expired => entry 0xC0
      let begun := s.port.trailerRecord.isSome
      let record := if begun then s.port.trailerRecord.getD none else s.reports.head?
      let held : Bool := if begun then s.port.recordHeld else !s.reports.isEmpty
      let left := if 8 ≤ sent ∧ held then s.reports.drop 1 else s.reports
      let field := match record with | some r => bytes r | none => [0, 0, 0, 0, 0, 0, 0, 0]
      let emitted := s.port.upTrailer ++
        ((field ++ [BitVec.ofNat 8 s.lost, BitVec.ofNat 8 left.length]).take sent).drop s.port.upTrailer.length
      exec (.trailerRecord sent) s = .next { s with
        reports := left,
        port := { s.port with
          byteTime := max s.port.byteTime (144 + min 10 sent), trailerRecord := some record,
          recordHeld := if 8 ≤ sent then false else held, trailerDue := decide (emitted.length < 10),
          upTrailer := emitted } })

/-- Expiry of the frame timer in RUNNING enters LOST. A frame in progress is cut first: a request not emitted whole
counts as not sent, and an unanswered write opens its record, its k moved out of W. Then at every position the record
goes, its k of word 4 becoming the pending resolution, the held request goes and the lock closes; a booth with its
card present keeps the serial as the expected serial and forgets the halves and the balance; HIGHWAY LOST is placed,
the loss timer and loss duration start from 0, and the outputs of the cut frame stand at idle fill. Outside RUNNING
the timer stands expired (R55, R58, R59, R93, R94, R118, R142, R144). The model's choices: a stopped timer does not
expire (log entry 7), what was emitted is the later of operand and byte time (log entry 9), a complete frame keeps its
trailer (log entry 10). -/
def Obligations.FrameTimeoutLosesTheHighway : Prop :=
  ∀ (s : State) (cut : Nat), s.running →
    (s.sup.frameTimer = none → exec (.frameTimeout cut) s = .next s) ∧
    (s.sup.frameTimer ≠ none → s.sup.highway ≠ .running →
      exec (.frameTimeout cut) s = .next { s with sup := { s.sup with frameTimer := some 24576 } }) ∧
    (s.sup.frameTimer ≠ none → s.sup.highway = .running → s.reports.length < 32 →
      ∃ t, exec (.frameTimeout cut) s = .next t ∧ SameTables s t ∧ t.arrears = s.arrears ∧ t.ledger = s.ledger ∧
        t.lost = s.lost ∧
        t.reports = s.reports ++
          [{ kind := .highwayLost, position := none, serial := none, units := 0, aux := 0 }] ∧
        t.sup = { highway := .lost, frameTimer := some 24576, lossTimer := some 0, lossDuration := 0 } ∧
        t.port = (if s.port.inProgress then { Port.reset with frameNumber := s.port.frameNumber } else s.port) ∧
        ∀ p : Position,
          let b := s.booth p
          let c := s.slot p
          let emitted : Bool := 17 + 5 * p.val ≤ max cut s.port.byteTime
          let unanswered := match c.record with
            | some r => if s.port.inProgress && emitted then some r else none
            | none => none
          let opened : Option InFlight := match unanswered with
            | some ⟨origin, .write a v, treatment⟩ =>
              some { origin := origin, word := a, value := v, frames := 0,
                     prior := if a = 4 then b.known else none,
                     k := if a = 4 then
                         match b.known with
                         | none => 0
                         | some n =>
                           if origin = .own then n - v
                           else if treatment = .converted then 0 else min b.owed (n - v)
                       else 0 }
            | _ => none
          let cut := match opened with
            | some x => ({ b with owed := b.owed - x.k } : Booth).evaluated { c with inFlight := opened }
                s.settings.graceTime
            | none => b
          let pendingRes := match opened.or c.inFlight with
            | some x =>
              if x.word = 4 ∧ 0 < x.k then some { prior := x.prior.getD 0, new := x.value, k := x.k } else b.pendingRes
            | none => b.pendingRes
          t.slot p = { inFlight := none, held := none, lock := 0,
                       record := if s.port.inProgress then none else c.record } ∧
          t.booth p =
            if b.present = .yes then
              { cut with
                pendingRes := pendingRes, serialHigh := none, serialLow := none, known := none,
                expected := (match b.serialHigh, b.serialLow with
                  | some h, some l => some (h * 65536 + l)
                  | _, _ => b.expected) }
            else { cut with pendingRes := pendingRes })

/-- The loss timer at 2 s in LOST enters LONG LOST: every booth in CALL, GRACE or OPEN goes to CLEARING with cause
HIGHWAY LOST, the reports in position order, and no other booth moves. Outside LOST the loss timer does not run, and
the command changes nothing (the model's choice, log entry 7) (R15, R146). -/
def Obligations.LongLossClearsCallsDown : Prop :=
  ∀ s : State, s.running →
    (s.sup.highway ≠ .lost → exec .longLost s = .next s) ∧
    (s.sup.highway = .lost → s.reports.length + 24 ≤ 32 →
      let clears := fun p : Position => decide ((s.booth p).state = .call ∨ (s.booth p).state = .grace ∨
        (s.booth p).state = .opened)
      ∃ t, exec .longLost s = .next t ∧ SameTables s t ∧ t.slots = s.slots ∧ t.port = s.port ∧ t.arrears = s.arrears ∧
        t.ledger = s.ledger ∧ t.lost = s.lost ∧
        t.sup = { s.sup with highway := .longLost, lossTimer := none } ∧
        (∀ p, t.booth p =
          if clears p then
            { s.booth p with state := .clearing, grace := 0, timer := some (.assert s.settings.clearDownHold) }
          else s.booth p) ∧
        t.reports = s.reports ++ ((positions.filter clears).map fun p =>
          { kind := .clearDown .highwayLost, position := some p, serial := none, units := 0, aux := 0 }))

/-! ## Table words -/

/-- RESTART empties the queue, a record that a trailer is sending included, zeroes the lost count and closes every
lock with no report. A TARIFF word with its band and period in range makes that entry SET with both values clamped,
and a SCHEDULE word with its slot in range sets it or makes it unused; a selecting field out of range makes the word
ignored. Nothing else changes (R28, R30, R118, R155 to R157, R161, R170). -/
def Obligations.RestartTariffAndScheduleAct : Prop :=
  ∀ (s : State) (band period charge slot : Byte) (rate minute : Word), s.running →
    exec .restart s = .next { s with
      reports := [], lost := 0, slots := s.slots.map fun c => { c with lock := 0 },
      port := { s.port with recordHeld := false } } ∧
    (∀ (hb : band.toNat < 16) (hp : period.toNat < 4),
      exec (.tariff band period charge rate) s = .next { s with
        tariff := s.tariff.set band.toNat (s.tariff[band.toNat].set period.toNat
          (some { charge := min charge.toNat 15, rate := min rate.toNat 4095 })) }) ∧
    (16 ≤ band.toNat ∨ 4 ≤ period.toNat → exec (.tariff band period charge rate) s = .next s) ∧
    (∀ (hs : slot.toNat < 8),
      exec (.schedule slot minute period) s = .next { s with
        schedule := s.schedule.set slot.toNat
          (if minute.toNat < 1440 then
            some { minute := minute.toNat, period := if h : period.toNat < 4 then ⟨period.toNat, h⟩ else 3 }
          else none) }) ∧
    (8 ≤ slot.toNat → exec (.schedule slot minute period) s = .next s)

/-- A SETTING word sets the setting it names to its value clamped to that setting's range, and no other; a number
above 11 changes nothing. The alert line follows at once: in every state with no reset asserted it is asserted where
the queue level is at or above the alert threshold as it then stands, and only there; while a reset is asserted it is
released (R155, R158, R169). -/
def Obligations.SettingIsClampedToItsRange : Prop :=
  ∀ (s : State) (number : Byte) (value : Word),
    (s.resetAsserted = true → s.alert = false) ∧
    (s.running →
      let n := number.toNat
      let v := value.toNat
      let t := s.settings
      let threshold := if n = 10 then max 1 (min 32 v) else t.alertThreshold
      let after : State := { s with settings := {
        insertionThreshold := if n = 0 then max 1 (min 15 v) else t.insertionThreshold,
        rowAllowance := if n = 1 then min 15 v else t.rowAllowance,
        lowCredit := if n = 2 then min 255 v else t.lowCredit,
        graceTime := if n = 3 then min 60 v else t.graceTime,
        lockLimit := if n = 4 then max 2 (min 15 v) else t.lockLimit,
        retention := if n = 5 then max 1 (min 255 v) else t.retention,
        parity := if n = 6 then (if v = 0 then .any else if v = 1 then .even else .odd) else t.parity,
        debounceCount := if n = 7 then max 2 (min 8 v) else t.debounceCount,
        scanStep := if n = 8 then max 1 (min 64 v) else t.scanStep,
        clearDownHold := if n = 9 then max 1 (min 20 v) else t.clearDownHold,
        alertThreshold := threshold,
        unknownBand := if n = 11 then (if h : v < 16 then ⟨v, h⟩ else 15) else t.unknownBand } }
      exec (.setting number value) s = .next after ∧
      (s.alert = true ↔ t.alertThreshold ≤ s.reports.length) ∧
      (after.alert = true ↔ threshold ≤ s.reports.length))

/-- A POSITION word delivers CHARGED for 0 and FREE for any other mode: applied at once in VACANT, where a change to
CHARGED sets resumed to NO, and held as the pending mode in any other state. A position above 23 makes it ignored (R4,
R20, R155, R159, R160). -/
def Obligations.PositionWordDeliversTheMode : Prop :=
  ∀ (s : State) (number mode : Byte), s.running →
    let m : Mode := if mode = 0 then .charged else .free
    (∀ p : Position, number.toNat = p.val →
      let b := s.booth p
      exec (.position number mode) s = .next (s.withContexts p
        (if b.state = .vacant then
          { b with mode := m, pendingMode := none,
                   resumed := if b.mode = .free ∧ m = .charged then .no else b.resumed }
        else { b with pendingMode := some m }) (s.slot p))) ∧
    (24 ≤ number.toNat → exec (.position number mode) s = .next s)

/-- The current period: of the set slots at or below the minute of day, or of all set slots where none is, the one
with the largest switch minute, the higher slot number among equals; 0 with no slot set or the minute absent (R31). -/
def Obligations.CurrentPeriodFollowsTheSchedule : Prop :=
  ∀ s : State,
    (s.minute = none → s.currentPeriod = 0) ∧
    ((∀ n : Fin 8, s.schedule[n] = none) → s.currentPeriod = 0) ∧
    (∀ (m : Nat) (n : Fin 8) (x : SwitchPoint), s.minute = some m → s.schedule[n] = some x → x.minute ≤ m →
      (∀ (k : Fin 8) (y : SwitchPoint), s.schedule[k] = some y → y.minute ≤ m →
        y.minute < x.minute ∨ (y.minute = x.minute ∧ k ≤ n)) →
      s.currentPeriod = x.period) ∧
    (∀ (m : Nat) (n : Fin 8) (x : SwitchPoint), s.minute = some m → s.schedule[n] = some x →
      (∀ (k : Fin 8) (y : SwitchPoint), s.schedule[k] = some y → m < y.minute) →
      (∀ (k : Fin 8) (y : SwitchPoint), s.schedule[k] = some y →
        y.minute < x.minute ∨ (y.minute = x.minute ∧ k ≤ n)) →
      s.currentPeriod = x.period)

/-! ## Ticks -/

/-- A tick at a booth whose rate in use is present, with W in its range: the rate becomes that of a SET entry for the
effective band and the current period, or is held; with s = f + r the new units are s div 1,024 and the fraction s mod
1,024; call units and W rise by the new units, both stopping at 65,535; the card's fields and the interception context
stay. With no saturation a booth in CALL stays in CALL while its credit is undefined or above 0 after the new units,
and goes to GRACE with the full grace time, not counted down in this tick, where they leave it at 0 or less; with no
new units credit is not evaluated. A booth in GRACE with no credit and more than a tick of grace left loses that tick.
In the other states only the clear-down timer moves, where the booth clears down. The account's accrued units rise by
the new units of every booth, and a tick that saturates no W, ends no grace and expires no entry places no report and
drops nothing (R12, R13, R16, R24, R29, R36 to R40, R66, R79). -/
def Obligations.TickAccruesAtTheReselectedRate : Prop :=
  ∀ (s : State) (p : Position) (held : Nat), s.running → (s.booth p).rate = some held → (s.booth p).owed ≤ 65535 →
    let b := s.booth p
    let rate := match s.tariff[b.band.getD s.settings.unknownBand][s.currentPeriod] with
      | some e => e.rate
      | none => held
    let sum := b.fraction + rate
    let charged := { b with
      rate := some rate, fraction := sum % 1024, callUnits := min 65535 (b.callUnits + sum / 1024),
      owed := min 65535 (b.owed + sum / 1024) }
    ∃ t, exec .chargeTick s = .next t ∧ SameTables s t ∧ t.divider = 0 ∧ t.slots = s.slots ∧ t.port = s.port ∧
      (t.booth p).rate = some rate ∧ (t.booth p).fraction = sum % 1024 ∧
      (t.booth p).callUnits = min 65535 (b.callUnits + sum / 1024) ∧
      (t.booth p).owed = min 65535 (b.owed + sum / 1024) ∧
      t.booth p = { charged with state := (t.booth p).state, grace := (t.booth p).grace, timer := (t.booth p).timer } ∧
      (b.owed + sum / 1024 ≤ 65535 →
        (b.state = .call →
          (∀ c, s.credit p = some c → c ≤ (sum / 1024 : Nat) → 0 < sum / 1024 →
            t.booth p = { charged with state := .grace, grace := s.settings.graceTime * 10 }) ∧
          ((sum / 1024 = 0 ∨ ∀ c, s.credit p = some c → (sum / 1024 : Nat) < c) → t.booth p = charged)) ∧
        (b.state = .grace → 2 ≤ b.grace →
          (sum / 1024 = 0 ∨ ∀ c, b.present = .yes ∧ b.serial.isSome = true → s.credit p = some c →
            c ≤ (sum / 1024 : Nat)) →
          t.booth p = { charged with grace := b.grace - 1 })) ∧
      (b.state ≠ .call → b.state ≠ .grace →
        t.booth p = { charged with
          timer := if b.state = .clearing ∨ (b.state = .fault ∧ b.callUp = true) then
              b.timer.map (ClearDown.move s.settings.clearDownHold)
            else b.timer }) ∧
      t.ledger.accrued = s.ledger.accrued + (positions.map s.tickUnits).sum ∧
      (s.QuietTick p → s.tickPlacesNoReport p → SameReports s t ∧
        t.ledger = { s.ledger with accrued := s.ledger.accrued + (positions.map s.tickUnits).sum })

/-- A tick at a booth with no rate in use moves no charging field, in any state: outside GRACE it moves the clear-down
timer where the booth runs the clear-down cycle, and nothing else; the tick count rises to 599 and wraps, the flash
phase toggles at each multiple of 5, and the loss duration rises in LOST and LONG LOST and stops at 65,535. The tick
that wraps the tick count makes the age step: its state is that of the command AGE_STEP on the state of a tick that
makes none, so every entry is a step older and those that reach the retention are gone; no other tick moves the list
(R16, R24, R25, R36, R42, R78, R79, R137, R145). That the booths act before the age step is log entry 8. -/
def Obligations.TickMovesCountsAndLeavesUnratedBooths : Prop :=
  ∀ s : State, s.running →
    ∃ t, exec .chargeTick s = .next t ∧
      t.tickCount = (s.tickCount + 1) % 600 ∧
      t.scan = { s.scan with flash := if (s.tickCount + 1) % 5 = 0 then !s.scan.flash else s.scan.flash } ∧
      t.sup = { s.sup with lossDuration :=
        if s.sup.highway = .lost ∨ s.sup.highway = .longLost then min 65535 (s.sup.lossDuration + 1)
        else s.sup.lossDuration } ∧
      (∀ p, (s.booth p).rate = none →
        (t.booth p).rate = none ∧ (t.booth p).fraction = (s.booth p).fraction ∧
        (t.booth p).owed = (s.booth p).owed ∧ (t.booth p).callUnits = (s.booth p).callUnits ∧
        ((s.booth p).state ≠ .grace →
          t.booth p = { s.booth p with timer := (t.booth p).timer } ∧
          (¬ ((s.booth p).state = .clearing ∨ ((s.booth p).state = .fault ∧ (s.booth p).callUp = true)) →
            (t.booth p).timer = (s.booth p).timer))) ∧
      ((s.tickCount + 1) % 600 ≠ 0 → t.arrears = s.arrears) ∧
      ((s.tickCount + 1) % 600 = 0 →
        ∃ u, exec .chargeTick { s with tickCount := 0 } = .next u ∧ u.arrears = s.arrears ∧
          exec .ageStep { u with tickCount := 0, scan := t.scan } = .next t ∧
          ((s.arrears.map ArrearsEntry.serial).Nodup →
            t.arrears = (s.arrears.map fun e => { e with age := e.age + 1 }).filter
              fun e => e.age < s.settings.retention))

/-- Units that take W above 65,535 leave it at 65,535; the excess is dropped and reported, and a booth in CALL or
GRACE then goes to CLEARING with cause SATURATED, its CLEAR-DOWN record after the UNITS DROPPED record; any other
state stays. So an addition does anywhere, a tick's accrual, the call units rising by all the new units and the rate
in use staying, and the answer units of a call start, which goes to CLEARING in place of CALL (R10, R15, R34, R36,
R39, R40). That the settlement of a pending resolution also places the CLEAR-DOWN record is log entry 30 (DEDUCED). -/
def Obligations.SaturationDropsTheExcess : Prop :=
  ∀ (s : State) (p : Position) (n : Nat) (x : RowInputs), s.reports.length + 2 ≤ 32 →
    let b := s.booth p
    let rows := x.driven &&& x.level
    let band := b.band.getD s.settings.unknownBand
    let hold := some (ClearDown.assert s.settings.clearDownHold)
    let dropped := fun excess : Nat =>
      ({ kind := .unitsDropped .saturated, position := some p, serial := none, units := excess, aux := 0 } : Report)
    let cleared : Report := { kind := .clearDown .saturated, position := some p, serial := none, units := 0, aux := 0 }
    (65535 < b.owed + n →
      let excess := b.owed + n - 65535
      let t := s.charge p n
      OtherBooths p s t ∧ t.slots = s.slots ∧ SameRest s t ∧ t.arrears = s.arrears ∧ t.lost = s.lost ∧
      t.ledger = { s.ledger with dropped := s.ledger.dropped + excess } ∧
      ((b.state = .call ∨ b.state = .grace) →
        t.booth p = { b with owed := 65535, state := .clearing, grace := 0, timer := hold } ∧
        t.reports = s.reports ++ [dropped excess, cleared]) ∧
      (b.state ≠ .call → b.state ≠ .grace →
        t.booth p = { b with owed := 65535 } ∧ t.reports = s.reports ++ [dropped excess])) ∧
    (∀ held, b.rate = some held → s.running →
      let rate := match s.tariff[band][s.currentPeriod] with
        | some e => e.rate
        | none => held
      let sum := b.fraction + rate
      let excess := b.owed + sum / 1024 - 65535
      let charged := { b with
        rate := some rate, fraction := sum % 1024, callUnits := min 65535 (b.callUnits + sum / 1024), owed := 65535 }
      let calls := b.state = .call ∨ b.state = .grace
      b.owed ≤ 65535 → 65535 < b.owed + sum / 1024 →
      ∃ t, exec .chargeTick s = .next t ∧
        (calls → b.timer = none → t.booth p = { charged with state := .clearing, grace := 0, timer := hold }) ∧
        (¬ calls → t.booth p = { charged with timer := (t.booth p).timer }) ∧
        ((∀ q, q ≠ p → (s.booth q).rate = none ∧ (s.booth q).state ≠ .grace) → (s.tickCount + 1) % 600 ≠ 0 →
          t.lost = s.lost ∧
          t.ledger = { s.ledger with accrued := s.ledger.accrued + sum / 1024, dropped := s.ledger.dropped + excess } ∧
          t.reports = s.reports ++ dropped excess :: (if calls then [cleared] else []))) ∧
    (s.SamplesAlone rows p → b.mode = .charged → b.state = .card → (s.loop p).level = some true →
      ¬ s.loopCompletes rows p → (s.answerLine p).level = some false → s.answerCompletes rows p →
      ∀ e, s.tariff[band][s.currentPeriod] = some e →
        let a := e.charge + if 0 < e.rate then 1 else 0
        let excess := b.owed + a - 65535
        65535 < b.owed + a →
        ∃ t, exec (.senseSample x) s = .next t ∧ OtherBooths p s t ∧ t.slots = s.slots ∧ SameTables s t ∧
          t.arrears = s.arrears ∧ t.port = s.port ∧ t.sup = s.sup ∧ t.lost = s.lost ∧
          t.booth p = { b with
            state := .clearing, callUp := true, resumed := .no, bandAtAnswer := band, rate := some e.rate, fraction := 0,
            callUnits := a, lastSerial := b.serial, owed := 65535, grace := 0, timer := hold } ∧
          t.ledger = { s.ledger with accrued := s.ledger.accrued + a, dropped := s.ledger.dropped + excess } ∧
          t.reports = s.reports ++ [dropped excess, cleared])

/-- The tick's move of a grace countdown and of a clear-down timer. At a booth in GRACE with no credit, its balance
being unknown, its card not identified or not there, or its available credit 0 or less, and no saturation, the
countdown falls by 1, and one of 1 or 0 ends in CLEARING with a CLEAR-DOWN report of cause GRACE EXPIRED, which is the
tick's one report where no other booth and no entry gives one. At a booth in CLEARING, and at one in FAULT with a call
up, the timer falls by 1, ASSERT passing to GAP of 50 ticks and GAP to ASSERT of the hold as it stands; in FAULT with
no call up it does not move (R3, R13 to R16, R36). -/
def Obligations.TickMovesGraceAndClearDown : Prop :=
  ∀ (s : State) (p : Position), s.running →
    let b := s.booth p
    ∃ t, exec .chargeTick s = .next t ∧
      (b.state = .grace → (∀ c, b.present = .yes ∧ b.serial.isSome = true → s.credit p = some c → c ≤ 0) →
        b.timer = none → s.tickUnits p = 0 ∨ b.owed + s.tickUnits p ≤ 65535 →
        (2 ≤ b.grace →
          (t.booth p).state = .grace ∧ (t.booth p).grace = b.grace - 1 ∧ (t.booth p).timer = none ∧
          (s.QuietTick p → SameReports s t)) ∧
        (b.grace ≤ 1 →
          (t.booth p).state = .clearing ∧ (t.booth p).grace = 0 ∧
          (t.booth p).timer = some (.assert s.settings.clearDownHold) ∧
          (s.QuietTick p → s.reports.length < 32 →
            t.lost = s.lost ∧
            t.reports = s.reports ++
              [{ kind := .clearDown .graceExpired, position := some p, serial := none, units := 0, aux := 0 }]))) ∧
      (b.state = .clearing ∨ (b.state = .fault ∧ b.callUp = true) →
        (t.booth p).state = b.state ∧
        (∀ n, b.timer = some (.assert n) →
          (t.booth p).timer = some (if n ≤ 1 then .gap 50 else .assert (n - 1))) ∧
        (∀ n, b.timer = some (.gap n) →
          (t.booth p).timer = some (if n ≤ 1 then .assert s.settings.clearDownHold else .gap (n - 1)))) ∧
      (b.state = .fault → b.callUp = false → (t.booth p).state = .fault ∧ (t.booth p).timer = b.timer)

/-- The ends of the countdowns taken alone: the last tick of GRACE enters CLEARING with GRACE EXPIRED, the last tick
of ASSERT passes to GAP of 50 ticks, the last tick of GAP to ASSERT of the hold; at any other count, or where the
booth does not run the countdown, nothing changes (the model's choice, log entry 6) (R13, R15, R16). -/
def Obligations.CountdownEndsTakenAlone : Prop :=
  ∀ (s : State) (p : Position), s.running →
    let b := s.booth p
    let runs := b.state = .clearing ∨ (b.state = .fault ∧ b.callUp = true)
    (b.state = .grace → b.grace ≤ 1 → exec (.graceExpired p) s =
      .next ((s.withContexts p { b with state := .clearing, grace := 0,
                                        timer := some (.assert s.settings.clearDownHold) } (s.slot p)).place
        { kind := .clearDown .graceExpired, position := some p, serial := none, units := 0, aux := 0 })) ∧
    (b.state ≠ .grace ∨ 2 ≤ b.grace → exec (.graceExpired p) s = .next s) ∧
    (∀ n, b.timer = some (.assert n) → n ≤ 1 → runs → exec (.clearDownAssertEnd p) s =
      .next (s.withContexts p { b with timer := some (.gap 50) } (s.slot p))) ∧
    (∀ n, b.timer = some (.gap n) → n ≤ 1 → runs → exec (.clearDownGapEnd p) s =
      .next (s.withContexts p { b with timer := some (.assert s.settings.clearDownHold) } (s.slot p))) ∧
    ((¬ runs ∨ b.timer = none ∨ (∃ n, b.timer = some (.gap n)) ∨ ∃ n, b.timer = some (.assert n) ∧ 2 ≤ n) →
      exec (.clearDownAssertEnd p) s = .next s) ∧
    ((¬ runs ∨ b.timer = none ∨ (∃ n, b.timer = some (.assert n)) ∨ ∃ n, b.timer = some (.gap n) ∧ 2 ≤ n) →
      exec (.clearDownGapEnd p) s = .next s)

/-- An age step raises every age by 1 and removes the entries that then stand at or above the arrears retention,
oldest first, each reported as EXPIRED with its units, which are dropped, in two records above 65,535; the others keep
their order. An expiry taken alone does so for one entry (the model's choice, log entry 6). A flash step toggles the
flash phase (R75, R78, R79, R137). -/
def Obligations.AgeStepExpiresOldEntries : Prop :=
  ∀ (s : State) (serial : BitVec 32), s.running →
    let aged := s.arrears.map fun e => { e with age := e.age + 1 }
    let gone := aged.filter fun e => s.settings.retention ≤ e.age
    let expired := fun (e : ArrearsEntry) (units aux : Nat) =>
      ({ kind := .arrearsDropped .expired, position := some e.origin, serial := some e.serial, units := units,
         aux := aux } : Report)
    let records := fun e : ArrearsEntry =>
      expired e (min 65535 e.units) (pairK e.pair) :: if 65535 < e.units then [expired e (e.units - 65535) 0] else []
    exec .flashStep s = .next { s with scan := { s.scan with flash := !s.scan.flash } } ∧
    ((s.arrears.map ArrearsEntry.serial).Nodup → s.reports.length + (gone.flatMap records).length ≤ 32 →
      exec .ageStep s = .next { s with
        arrears := aged.filter fun e => e.age < s.settings.retention,
        reports := s.reports ++ gone.flatMap records,
        ledger := { s.ledger with dropped := s.ledger.dropped + (gone.map ArrearsEntry.units).sum } }) ∧
    (∀ e, s.arrears.find? (fun x => x.serial = serial.toNat) = some e → s.settings.retention ≤ e.age + 1 →
      s.reports.length + (records e).length ≤ 32 →
      exec (.arrearsExpiry serial) s = .next { s with
        arrears := s.arrears.filter fun x => x.serial ≠ serial.toNat,
        reports := s.reports ++ records e,
        ledger := { s.ledger with dropped := s.ledger.dropped + e.units } }) ∧
    ((∀ e ∈ s.arrears, e.serial = serial.toNat → e.age + 1 < s.settings.retention) →
      exec (.arrearsExpiry serial) s = .next s)

/-! ## The line scan -/

/-- A scan step begins with the sense segment of the next column, 0 after 5, and reads the scan step setting. A drive
segment fixes its eight rows from the booths of its column: the even row by the clear-down cycle in phase ASSERT, the
odd row by the lamp, which is lit in GRACE while the flash phase is ON and in CALL with credit at or below the
low-credit threshold, and never at a FREE booth (R5, R16, R22, R128, R129, R131, R136, R137). The model's choices (log
entry 7): in a sense segment whose sample no command has brought, DRIVE_SEGMENT and SCAN_STEP_START first take it, of
free inputs of the rows; in a sense segment SCAN_STEP_START then leaves its drive segment no length; and outside a
sense segment no drive segment starts. -/
def Obligations.ScanStepsAndDriveSegments : Prop :=
  ∀ s : State, s.running →
    (s.scan.segment ≠ .off → s.scan.segment ≠ .sense ∨ s.scan.sampled = true → exec .scanStepStart s = .next { s with scan := { s.scan with
      column := if s.scan.column = 5 then 0 else s.scan.column + 1, segment := .sense, sampled := false,
      stepSetting := s.settings.scanStep, elapsed := 0 } }) ∧
    (s.scan.segment = .sense → s.scan.sampled = false →
      ∃ x t, exec (.senseSample x) { s with draws := s.draws + 1 } = .next t ∧ t.scan.sampled = true ∧
        exec .scanStepStart s = exec .scanStepStart t ∧ exec .driveSegment s = exec .driveSegment t) ∧
    (s.scan.segment = .sense → s.scan.sampled = true → ∃ rows : Byte,
      exec .driveSegment s = .next { s with scan := { s.scan with segment := .drive rows, elapsed := 0 } } ∧
      ∀ p : Position, p.val / 4 = s.scan.column.val →
        (rows.getLsbD (2 * (p.val % 4)) = true ↔
          ((s.booth p).state = .clearing ∨ ((s.booth p).state = .fault ∧ (s.booth p).callUp = true)) ∧
            ∃ n, (s.booth p).timer = some (.assert n)) ∧
        (rows.getLsbD (2 * (p.val % 4) + 1) = true ↔
          (s.booth p).mode = .charged ∧
            (((s.booth p).state = .grace ∧ s.scan.flash = true) ∨
              ((s.booth p).state = .call ∧ ∃ c, s.credit p = some c ∧ c ≤ s.settings.lowCredit)))) ∧
    (s.scan.segment ≠ .sense → exec .driveSegment s = .next s)

/-- The sample ends its sense segment, and acts on the debounce records of its column's eight signals by the three
steps of R132, with the debounce count as it stands, LOOP on the even rows and ANSWER on the odd; no other record
moves. A row that no line interface drives is held low by its pull and reads low, whatever stands as its level. A run
count held between samples is below the debounce count (R128 to R130, R132). -/
def Obligations.SampleMovesTheDebounceRecords : Prop :=
  ∀ (s : State) (x : RowInputs), s.running → s.scan.segment = .sense → s.scan.sampled = false →
    let row := fun n : Nat => x.driven.getLsbD n && x.level.getLsbD n
    let next := fun (x : Debounce) (level : Bool) =>
      if x.level = some level then { x with runCount := 0 }
      else
        let y : Debounce :=
          if 0 < x.runCount ∧ level = x.runLevel then { x with runCount := x.runCount + 1 }
          else { x with runLevel := level, runCount := 1 }
        if s.settings.debounceCount ≤ y.runCount then { y with level := some y.runLevel, runCount := 0 } else y
    ∃ t, exec (.senseSample x) s = .next t ∧ t.scan.sampled = true ∧ t.scan.column = s.scan.column ∧
      t.scan.segment = .sense ∧ t.scan.elapsed = s.scan.stepSetting * 128 ∧ t.scan.flash = s.scan.flash ∧
      ∀ p : Position,
        (p.val / 4 = s.scan.column.val →
          t.loop p = next (s.loop p) (row (2 * (p.val % 4))) ∧
          t.answerLine p = next (s.answerLine p) (row (2 * (p.val % 4) + 1)) ∧
          (1 ≤ s.settings.debounceCount →
            (t.loop p).runCount < s.settings.debounceCount ∧ (t.answerLine p).runCount < s.settings.debounceCount)) ∧
        (p.val / 4 ≠ s.scan.column.val → t.loop p = s.loop p ∧ t.answerLine p = s.answerLine p)

/-- Line rises and first values at a CHARGED booth, where the sample brings no event to another booth of its column.
An ANSWER rise with LOOP high, also where LOOP rises at the same sample: in CARD with a SET entry it starts a charged
call: the answer charge, and one unit more where the rate is above 0, go to W and are the call units, and the booth is
in CALL, or in GRACE with the full grace time where that leaves no credit. In CARD with an UNSET entry it goes to
CLEARING. In VACANT it starts an OPEN call, uncharged. In FAULT it starts the clear-down cycle. With LOOP not high it
changes nothing at the booth. First values while resumed is WAITING: one alone is kept; with either of the two low,
resumed becomes NO; with both high the call is found up: it waits where card present is unknown, starts the clear-down
cycle in FAULT, and else starts as a resumed call at the unknown band. A LOOP rise, and a first value while resumed is
NO, change nothing at the booth (R3, R10 to R12, R19 to R21, R34, R43, R45, R133, R134; what becomes of resumed in
FAULT is log entry 12, and what resumed and the other fields become at an UNSET entry log entry 13; that a resumed
call looks up the unknown band, and makes it the band at answer, also where a band was read while it waited, is log
entry 29, DEDUCED from R21). -/
def Obligations.LineRisesAndFirstValuesStartCalls : Prop :=
  ∀ (s : State) (p : Position) (x : RowInputs),
    let rows := x.driven &&& x.level
    s.SamplesAlone rows p → (s.booth p).mode = .charged →
    s.reports.length < 32 →
    let b := s.booth p
    let band := b.band.getD s.settings.unknownBand
    let hold := some (ClearDown.assert s.settings.clearDownHold)
    let cleared := fun cause : ClearCause =>
      s.reports ++ [{ kind := .clearDown cause, position := some p, serial := none, units := 0, aux := 0 }]
    let same := fun t : State =>
      OtherBooths p s t ∧ t.slots = s.slots ∧ SameTables s t ∧ t.arrears = s.arrears ∧ t.port = s.port ∧ t.sup = s.sup
    let quiet := fun t : State => t.ledger = s.ledger ∧ SameReports s t
    let high := ((s.loop p).level = some true ∧ ¬ s.loopCompletes rows p) ∨
      (s.loopCompletes rows p ∧ rows.getLsbD (2 * (p.val % 4)) = true)
    let loopStill := s.loopCompletes rows p → (s.loop p).level = some false ∨ ((s.loop p).level = none ∧ b.resumed = .no)
    let loopFirst := (s.loop p).level = none ∧ s.loopCompletes rows p
    let answerFirst := (s.answerLine p).level = none ∧ s.answerCompletes rows p
    ∃ t, exec (.senseSample x) s = .next t ∧
      (loopStill → (s.answerLine p).level = some false → s.answerCompletes rows p →
        same t ∧
        (high → b.state = .card →
          (∀ e, s.tariff[band][s.currentPeriod] = some e →
            let a := e.charge + if 0 < e.rate then 1 else 0
            b.owed + a ≤ 65535 →
            t.booth p = ({ b with
              state := .call, callUp := true, resumed := .no, bandAtAnswer := band, rate := some e.rate, fraction := 0,
              callUnits := a, lastSerial := b.serial, owed := b.owed + a } : Booth).evaluated (s.slot p)
                s.settings.graceTime ∧
            t.ledger = { s.ledger with accrued := s.ledger.accrued + a } ∧ SameReports s t) ∧
          (s.tariff[band][s.currentPeriod] = none →
            t.booth p = { b with
              state := .clearing, callUp := true, resumed := .no, bandAtAnswer := band, rate := none, callUnits := 0,
              lastSerial := b.serial, grace := 0, timer := hold } ∧
            t.ledger = s.ledger ∧ t.reports = cleared .tariffUnset)) ∧
        (high → b.state = .vacant →
          t.booth p =
            { b with state := .opened, callUp := true, bandAtAnswer := s.settings.unknownBand, callUnits := 0 } ∧
          quiet t) ∧
        (high → b.state = .fault →
          t.booth p = { b with callUp := true, bandAtAnswer := band, callUnits := 0, timer := hold } ∧
          t.ledger = s.ledger ∧ t.reports = cleared .readerFault) ∧
        (high → b.state ≠ .card → b.state ≠ .vacant → b.state ≠ .fault →
          t.booth p = b ∧ quiet t) ∧
        (¬ high → t.booth p = b ∧ quiet t)) ∧
      (loopStill → (s.answerCompletes rows p → (s.answerLine p).level = none ∧ b.resumed = .no) →
        same t ∧ t.booth p = b ∧ quiet t) ∧
      (b.resumed = .waiting → loopFirst ∨ answerFirst → (s.loopCompletes rows p → (s.loop p).level ≠ some true) →
        (s.answerCompletes rows p → answerFirst) → (loopFirst → b.firstLoop = none) →
        (answerFirst → b.firstAnswer = none) →
        ∃ z y, (loopFirst → z = some (rows.getLsbD (2 * (p.val % 4)))) ∧ (¬ loopFirst → z = b.firstLoop) ∧
          (answerFirst → y = some (rows.getLsbD (2 * (p.val % 4) + 1))) ∧ (¬ answerFirst → y = b.firstAnswer) ∧
          let seen := { b with firstLoop := z, firstAnswer := y }
          let up := z = some true ∧ y = some true
          let started := { seen with callUp := true, resumed := .no, bandAtAnswer := s.settings.unknownBand }
          let entry := s.tariff[s.settings.unknownBand][s.currentPeriod]
          same t ∧
          (z = none ∨ y = none → t.booth p = seen ∧ quiet t) ∧
          (z ≠ none → y ≠ none → ¬ up → t.booth p = { seen with resumed := .no } ∧ quiet t) ∧
          (up → b.state = .fault →
            t.booth p = { seen with resumed := .no, callUp := true, bandAtAnswer := band, callUnits := 0, timer := hold } ∧
            t.ledger = s.ledger ∧ t.reports = cleared .readerFault) ∧
          (up → b.state ≠ .fault → b.present = .unknown → t.booth p = seen ∧ quiet t) ∧
          (up → b.state ≠ .fault → b.present ≠ .unknown →
            (∀ e, entry = some e →
              let called := { started with
                state := .call, rate := some e.rate, fraction := 0, callUnits := 0,
                lastSerial := (match b.serial with | some n => some n | none => b.lastSerial) }
              quiet t ∧
              (b.present = .yes → t.booth p = called.evaluated (s.slot p) s.settings.graceTime) ∧
              (b.present = .no →
                t.booth p = { called with state := .grace, grace := s.settings.graceTime * 10 })) ∧
            (entry = none →
              t.booth p = { started with state := .clearing, rate := none, grace := 0, timer := hold } ∧
              t.ledger = s.ledger ∧ t.reports = cleared .tariffUnset)))

/-- A fall of LOOP or of ANSWER, or of both at once, at a CHARGED booth, where the sample brings no event to another
booth of its column; no other event of the two lines acts at that sample, but for a first value of LOOP while resumed
is WAITING. With a call up it ends the call: CALL END carries the last serial, the call units and the band at answer,
and the fraction, the rate, the countdowns and the band go. With the card present the booth goes to CARD and W and the
pair stay; with no card it goes to VACANT and takes its pending mode, and W and the pair, where there are any, open
arrears under the last serial or, with none, are dropped. In FAULT the call ends, W leaves in the same way and the
booth stays. With no call up a fall ends a resume check that waits, and else changes nothing (R4, R17, R19, R20, R44,
R73 to R76, R133, R134; the band kept in FAULT is log entry 13). -/
def Obligations.LoopFallEndsTheCall : Prop :=
  ∀ (s : State) (p : Position) (x : RowInputs),
    let rows := x.driven &&& x.level
    s.SamplesAlone rows p → (s.booth p).mode = .charged →
    let loopFall := (s.loop p).level = some true ∧ s.loopCompletes rows p
    let answerFall := (s.answerLine p).level = some true ∧ s.answerCompletes rows p
    let b := s.booth p
    loopFall ∨ answerFall → (s.loopCompletes rows p → (s.loop p).level = none → b.resumed = .no) →
    s.reports.length + 2 ≤ 32 →
    let ended : Report := { kind := .callEnd, position := some p, serial := b.lastSerial, units := b.callUnits,
                            aux := b.bandAtAnswer.val }
    ∃ t, exec (.senseSample x) s = .next t ∧ t.slots = s.slots ∧ SameTables s t ∧ t.port = s.port ∧
      (b.callUp = true → b.state ≠ .fault → b.present = .yes →
        OtherBooths p s t ∧ t.arrears = s.arrears ∧ t.ledger = s.ledger ∧ t.lost = s.lost ∧
        t.reports = s.reports ++ [ended] ∧
        t.booth p = { b with
          state := .card, fraction := 0, rate := none, callUp := false, grace := 0, timer := none, resumed := .no,
          band := none, lastSerial := none }) ∧
      (b.callUp = true → b.state ≠ .fault → b.present ≠ .yes →
        let vacated := { b with
          state := .vacant, fraction := 0, rate := none, callUp := false, grace := 0, timer := none, resumed := .no,
          band := none, lastSerial := none, owed := 0, pendingRes := none, pendingMode := none,
          mode := b.pendingMode.getD b.mode }
        let nothing := b.owed = 0 ∧ b.pendingRes = none
        (nothing →
          OtherBooths p s t ∧ t.booth p = vacated ∧ t.arrears = s.arrears ∧ t.ledger = s.ledger ∧ t.lost = s.lost ∧
          t.reports = s.reports ++ [ended]) ∧
        (∀ n, ¬ nothing → b.lastSerial = some n → (∀ q, (s.booth q).holds n = false) →
          OtherBooths p s t ∧ t.booth p = vacated ∧
          t.arrears = (openEntry s.arrears p n b.owed b.pendingRes).entries ∧
          ((∀ x ∈ s.arrears, x.serial ≠ n) → s.arrears.length < 32 →
            t.ledger = s.ledger ∧ t.lost = s.lost ∧
            t.reports = s.reports ++
              [ended, { kind := .arrearsOpened, position := some p, serial := some n, units := b.owed,
                        aux := if b.pendingRes.isSome then 1 else 0 }])) ∧
        (¬ nothing → b.lastSerial = none → b.owed + pairK b.pendingRes ≤ 65535 →
          let sum := b.owed + pairK b.pendingRes
          OtherBooths p s t ∧ t.booth p = vacated ∧ t.arrears = s.arrears ∧ t.lost = s.lost ∧
          t.ledger = { s.ledger with dropped := s.ledger.dropped + sum } ∧
          t.reports = s.reports ++
            [ended, { kind := .unitsDropped .noSerial, position := some p, serial := none, units := sum, aux := 0 }])) ∧
      (b.callUp = true → b.state = .fault → b.resumed = .no →
        let left := { b with fraction := 0, rate := none, callUp := false, timer := none, lastSerial := none, owed := 0 }
        (b.owed = 0 →
          OtherBooths p s t ∧ t.booth p = left ∧ t.arrears = s.arrears ∧ t.ledger = s.ledger ∧ t.lost = s.lost ∧
          t.reports = s.reports ++ [ended]) ∧
        (∀ n, 0 < b.owed → b.lastSerial = some n → (∀ q, (s.booth q).holds n = false) →
          OtherBooths p s t ∧ t.booth p = left ∧ t.arrears = (openEntry s.arrears p n b.owed none).entries ∧
          ((∀ x ∈ s.arrears, x.serial ≠ n) → s.arrears.length < 32 →
            t.ledger = s.ledger ∧ t.lost = s.lost ∧
            t.reports = s.reports ++
              [ended, { kind := .arrearsOpened, position := some p, serial := some n, units := b.owed, aux := 0 }])) ∧
        (0 < b.owed → b.owed ≤ 65535 → b.lastSerial = none →
          OtherBooths p s t ∧ t.booth p = left ∧ t.arrears = s.arrears ∧ t.lost = s.lost ∧
          t.ledger = { s.ledger with dropped := s.ledger.dropped + b.owed } ∧
          t.reports = s.reports ++
            [ended, { kind := .unitsDropped .noSerial, position := some p, serial := none, units := b.owed, aux := 0 }])) ∧
      (b.callUp = false →
        OtherBooths p s t ∧ t.booth p = { b with resumed := .no } ∧ t.arrears = s.arrears ∧ t.ledger = s.ledger ∧
        SameReports s t)

/-! ## Invariants of the part -/

/-- Every step keeps the tables and settings, the numbers of every booth and interception context, the Arrears List
and its entries, the length of the Report Queue, the lost count, the timers, the run counts and the counts of the
clock in their ranges (R1, R24 to R26, R28, R30, R39, R40, R53, R62, R67, R68, R104, R129, R132, R141, R158, R166,
R168, R179). -/
def Obligations.EveryStepKeepsRanges : Prop :=
  ∀ s t : State, s.InRange → step s = .next t → t.InRange

/-- Every step keeps serials apart: no arrears entry carries the identified serial of a present card, and no two
entries carry the same serial (R68, R72). -/
def Obligations.EveryStepKeepsSerialsApart : Prop :=
  ∀ s t : State, s.SerialsApart → step s = .next t → t.SerialsApart

/-- Every step keeps modes and states in agreement: a FREE booth is in VACANT, CARD or FAULT with no call and no rate,
and a booth in VACANT or CARD has neither (R5, R42). -/
def Obligations.EveryStepKeepsModesAndStatesAgreed : Prop :=
  ∀ s t : State, s.ModesAgree → step s = .next t → t.ModesAgree

/-- Every step from a state in range keeps the account: each unit accrued sits in W, in the k of a record, a pending
resolution or a pair, in an entry, among the units debited or among the units dropped (R66). -/
def Obligations.EveryStepKeepsTheAccount : Prop :=
  ∀ s t : State, s.InRange → s.Accounted → step s = .next t → t.Accounted

/-- Every step from a state in range with its account kept leaves available credit evaluated: no booth in CALL has a
defined credit of 0 or less, and no booth in GRACE with an identified card present has a credit above 0 (R3, R12,
R14). -/
def Obligations.EveryStepSettlesCredit : Prop :=
  ∀ s t : State, s.InRange → s.Accounted → s.CreditSettled → step s = .next t → t.CreditSettled

/-- Once SET a tariff entry stays SET until power-on reset, and the minute of day changes at header arrivals and at
power-on reset alone (R26, R28, R156). -/
def Obligations.TariffStaysSetAndMinuteFollowsHeaders : Prop :=
  ∀ (s t : State) (c : Instr), exec c s = .next t → c ≠ .powerOnReset →
    (∀ (b : Band) (q : Period), s.tariff[b][q] ≠ none → t.tariff[b][q] ≠ none) ∧
    ((∀ f m g w, c ≠ .headerArrival f m g w) → t.minute = s.minute)

/-! ## The bytes of the highway -/

/-- Decoding the bytes of a well-formed request, reply, table word or header command gives the command back, with
every field that it carries (R173 to R176). -/
def Obligations.HighwayBytesDecodeBack : Prop :=
  ∀ i : Instr, i.wellFormed = true →
    (∀ p b, encodeRequest i = some (p, b) → decodeRequest p b = i) ∧
    (∀ p b, encodeReply i = some (p, b) → decodeReply p b = i) ∧
    (∀ w, encodeTable i = some w → decodeTable w = some i) ∧
    (∀ w, encodeHeader i = some w → decodeHeader w = i)
end

