-- ==== Sys2Proof/Laws/State.lean ====
section
/-! SUPPORT. What each plain update of the state leaves alone: one lemma for each field and update, and reading a context after writing one. -/

namespace Sys2Proof.Machine

variable (s : State)

/-! ## Positions -/

/-- Every position is in the list of positions. -/
@[simp] theorem mem_positions (p : Position) : p ∈ positions := by
  revert p; decide

/-- No position is listed twice. -/
theorem positions_nodup : positions.Nodup := by decide

/-! ## Updates of one context -/

@[simp] theorem State.setBooth_pending (p : Position) (b : Booth) : (s.setBooth p b).pending = s.pending := rfl
@[simp] theorem State.setBooth_slots (p : Position) (b : Booth) : (s.setBooth p b).slots = s.slots := rfl
@[simp] theorem State.setBooth_arrears (p : Position) (b : Booth) : (s.setBooth p b).arrears = s.arrears := rfl
@[simp] theorem State.setBooth_tariff (p : Position) (b : Booth) : (s.setBooth p b).tariff = s.tariff := rfl
@[simp] theorem State.setBooth_schedule (p : Position) (b : Booth) : (s.setBooth p b).schedule = s.schedule := rfl
@[simp] theorem State.setBooth_settings (p : Position) (b : Booth) : (s.setBooth p b).settings = s.settings := rfl
@[simp] theorem State.setBooth_minute (p : Position) (b : Booth) : (s.setBooth p b).minute = s.minute := rfl
@[simp] theorem State.setBooth_divider (p : Position) (b : Booth) : (s.setBooth p b).divider = s.divider := rfl
@[simp] theorem State.setBooth_tickCount (p : Position) (b : Booth) : (s.setBooth p b).tickCount = s.tickCount := rfl
@[simp] theorem State.setBooth_port (p : Position) (b : Booth) : (s.setBooth p b).port = s.port := rfl
@[simp] theorem State.setBooth_sup (p : Position) (b : Booth) : (s.setBooth p b).sup = s.sup := rfl
@[simp] theorem State.setBooth_scan (p : Position) (b : Booth) : (s.setBooth p b).scan = s.scan := rfl
@[simp] theorem State.setBooth_reports (p : Position) (b : Booth) : (s.setBooth p b).reports = s.reports := rfl
@[simp] theorem State.setBooth_lost (p : Position) (b : Booth) : (s.setBooth p b).lost = s.lost := rfl
@[simp] theorem State.setBooth_resetAsserted (p : Position) (b : Booth) : (s.setBooth p b).resetAsserted = s.resetAsserted := rfl
@[simp] theorem State.setBooth_powerUp (p : Position) (b : Booth) : (s.setBooth p b).powerUp = s.powerUp := rfl
@[simp] theorem State.setBooth_lineLow (p : Position) (b : Booth) : (s.setBooth p b).lineLow = s.lineLow := rfl
@[simp] theorem State.setBooth_strap (p : Position) (b : Booth) : (s.setBooth p b).strap = s.strap := rfl
@[simp] theorem State.setBooth_ledger (p : Position) (b : Booth) : (s.setBooth p b).ledger = s.ledger := rfl
@[simp] theorem State.setBooth_draws (p : Position) (b : Booth) : (s.setBooth p b).draws = s.draws := rfl
@[simp] theorem State.setBooth_slot (p : Position) (b : Booth) (q : Position) : (s.setBooth p b).slot q = s.slot q := rfl

@[simp] theorem State.setSlot_pending (p : Position) (c : Intercept) : (s.setSlot p c).pending = s.pending := rfl
@[simp] theorem State.setSlot_booths (p : Position) (c : Intercept) : (s.setSlot p c).booths = s.booths := rfl
@[simp] theorem State.setSlot_arrears (p : Position) (c : Intercept) : (s.setSlot p c).arrears = s.arrears := rfl
@[simp] theorem State.setSlot_tariff (p : Position) (c : Intercept) : (s.setSlot p c).tariff = s.tariff := rfl
@[simp] theorem State.setSlot_schedule (p : Position) (c : Intercept) : (s.setSlot p c).schedule = s.schedule := rfl
@[simp] theorem State.setSlot_settings (p : Position) (c : Intercept) : (s.setSlot p c).settings = s.settings := rfl
@[simp] theorem State.setSlot_minute (p : Position) (c : Intercept) : (s.setSlot p c).minute = s.minute := rfl
@[simp] theorem State.setSlot_divider (p : Position) (c : Intercept) : (s.setSlot p c).divider = s.divider := rfl
@[simp] theorem State.setSlot_tickCount (p : Position) (c : Intercept) : (s.setSlot p c).tickCount = s.tickCount := rfl
@[simp] theorem State.setSlot_port (p : Position) (c : Intercept) : (s.setSlot p c).port = s.port := rfl
@[simp] theorem State.setSlot_sup (p : Position) (c : Intercept) : (s.setSlot p c).sup = s.sup := rfl
@[simp] theorem State.setSlot_scan (p : Position) (c : Intercept) : (s.setSlot p c).scan = s.scan := rfl
@[simp] theorem State.setSlot_reports (p : Position) (c : Intercept) : (s.setSlot p c).reports = s.reports := rfl
@[simp] theorem State.setSlot_lost (p : Position) (c : Intercept) : (s.setSlot p c).lost = s.lost := rfl
@[simp] theorem State.setSlot_resetAsserted (p : Position) (c : Intercept) : (s.setSlot p c).resetAsserted = s.resetAsserted := rfl
@[simp] theorem State.setSlot_powerUp (p : Position) (c : Intercept) : (s.setSlot p c).powerUp = s.powerUp := rfl
@[simp] theorem State.setSlot_lineLow (p : Position) (c : Intercept) : (s.setSlot p c).lineLow = s.lineLow := rfl
@[simp] theorem State.setSlot_strap (p : Position) (c : Intercept) : (s.setSlot p c).strap = s.strap := rfl
@[simp] theorem State.setSlot_ledger (p : Position) (c : Intercept) : (s.setSlot p c).ledger = s.ledger := rfl
@[simp] theorem State.setSlot_draws (p : Position) (c : Intercept) : (s.setSlot p c).draws = s.draws := rfl
@[simp] theorem State.setSlot_booth (p : Position) (c : Intercept) (q : Position) : (s.setSlot p c).booth q = s.booth q := rfl

/-- Reading a booth context after writing one. -/
theorem State.booth_setBooth (p q : Position) (b : Booth) :
    (s.setBooth p b).booth q = if q = p then b else s.booth q := by
  simp only [State.booth, State.setBooth, Fin.getElem_fin, Vector.getElem_set, Fin.ext_iff, eq_comm]

@[simp] theorem State.booth_setBooth_self (p : Position) (b : Booth) : (s.setBooth p b).booth p = b := by
  simp [State.booth_setBooth]

@[simp] theorem State.booth_setBooth_of_ne {p q : Position} (h : q ≠ p) (b : Booth) :
    (s.setBooth p b).booth q = s.booth q := by
  simp [State.booth_setBooth, h]

/-- Reading an interception context after writing one. -/
theorem State.slot_setSlot (p q : Position) (c : Intercept) :
    (s.setSlot p c).slot q = if q = p then c else s.slot q := by
  simp only [State.slot, State.setSlot, Fin.getElem_fin, Vector.getElem_set, Fin.ext_iff, eq_comm]

@[simp] theorem State.slot_setSlot_self (p : Position) (c : Intercept) : (s.setSlot p c).slot p = c := by
  simp [State.slot_setSlot]

@[simp] theorem State.slot_setSlot_of_ne {p q : Position} (h : q ≠ p) (c : Intercept) :
    (s.setSlot p c).slot q = s.slot q := by
  simp [State.slot_setSlot, h]

@[simp] theorem State.setBooth_booth (p : Position) : s.setBooth p (s.booth p) = s := by
  simp [State.setBooth, State.booth]

@[simp] theorem State.setSlot_slot (p : Position) : s.setSlot p (s.slot p) = s := by
  simp [State.setSlot, State.slot]

@[simp] theorem State.setBooth_setBooth (p : Position) (b b' : Booth) :
    (s.setBooth p b).setBooth p b' = s.setBooth p b' := by
  simp [State.setBooth]

@[simp] theorem State.setSlot_setSlot (p : Position) (c c' : Intercept) :
    (s.setSlot p c).setSlot p c' = s.setSlot p c' := by
  simp [State.setSlot]

/-- Booth writes stand before slot writes: the one order the lemmas use. -/
@[simp] theorem State.setSlot_setBooth (p q : Position) (c : Intercept) (b : Booth) :
    (s.setSlot p c).setBooth q b = (s.setBooth q b).setSlot p c := rfl

@[simp] theorem State.onBooth_eq (p : Position) (f : Booth → Booth) : s.onBooth p f = s.setBooth p (f (s.booth p)) := rfl

@[simp] theorem State.onSlot_eq (p : Position) (f : Intercept → Intercept) :
    s.onSlot p f = s.setSlot p (f (s.slot p)) := rfl

/-- Two states agree in every booth context when their tables do. -/
theorem State.booths_ext {s t : State} (h : ∀ p, t.booth p = s.booth p) : t.booths = s.booths := by
  apply Vector.ext
  intro i hi
  exact h ⟨i, hi⟩

/-- Two states agree in every interception context when their tables do. -/
theorem State.slots_ext {s t : State} (h : ∀ p, t.slot p = s.slot p) : t.slots = s.slots := by
  apply Vector.ext
  intro i hi
  exact h ⟨i, hi⟩

/-! ## Records and the account -/

@[simp] theorem State.place_pending (r : Report) : (s.place r).pending = s.pending := by
  unfold State.place; split <;> rfl
@[simp] theorem State.place_booths (r : Report) : (s.place r).booths = s.booths := by
  unfold State.place; split <;> rfl
@[simp] theorem State.place_slots (r : Report) : (s.place r).slots = s.slots := by
  unfold State.place; split <;> rfl
@[simp] theorem State.place_arrears (r : Report) : (s.place r).arrears = s.arrears := by
  unfold State.place; split <;> rfl
@[simp] theorem State.place_tariff (r : Report) : (s.place r).tariff = s.tariff := by
  unfold State.place; split <;> rfl
@[simp] theorem State.place_schedule (r : Report) : (s.place r).schedule = s.schedule := by
  unfold State.place; split <;> rfl
@[simp] theorem State.place_settings (r : Report) : (s.place r).settings = s.settings := by
  unfold State.place; split <;> rfl
@[simp] theorem State.place_minute (r : Report) : (s.place r).minute = s.minute := by
  unfold State.place; split <;> rfl
@[simp] theorem State.place_divider (r : Report) : (s.place r).divider = s.divider := by
  unfold State.place; split <;> rfl
@[simp] theorem State.place_tickCount (r : Report) : (s.place r).tickCount = s.tickCount := by
  unfold State.place; split <;> rfl
@[simp] theorem State.place_port (r : Report) : (s.place r).port = s.port := by
  unfold State.place; split <;> rfl
@[simp] theorem State.place_sup (r : Report) : (s.place r).sup = s.sup := by
  unfold State.place; split <;> rfl
@[simp] theorem State.place_scan (r : Report) : (s.place r).scan = s.scan := by
  unfold State.place; split <;> rfl
@[simp] theorem State.place_resetAsserted (r : Report) : (s.place r).resetAsserted = s.resetAsserted := by
  unfold State.place; split <;> rfl
@[simp] theorem State.place_powerUp (r : Report) : (s.place r).powerUp = s.powerUp := by
  unfold State.place; split <;> rfl
@[simp] theorem State.place_lineLow (r : Report) : (s.place r).lineLow = s.lineLow := by
  unfold State.place; split <;> rfl
@[simp] theorem State.place_strap (r : Report) : (s.place r).strap = s.strap := by
  unfold State.place; split <;> rfl
@[simp] theorem State.place_ledger (r : Report) : (s.place r).ledger = s.ledger := by
  unfold State.place; split <;> rfl
@[simp] theorem State.place_draws (r : Report) : (s.place r).draws = s.draws := by
  unfold State.place; split <;> rfl
@[simp] theorem State.place_booth (r : Report) (q : Position) : (s.place r).booth q = s.booth q := by
  unfold State.place; split <;> rfl
@[simp] theorem State.place_slot (r : Report) (q : Position) : (s.place r).slot q = s.slot q := by
  unfold State.place; split <;> rfl

/-- Placing a record and writing a booth context commute. -/
@[simp] theorem State.place_setBooth (p : Position) (b : Booth) (r : Report) :
    (s.place r).setBooth p b = (s.setBooth p b).place r := by
  by_cases h : s.reports.length < 32 <;> simp [State.place, State.setBooth, h]

/-- Placing a record and writing an interception context commute. -/
@[simp] theorem State.place_setSlot (p : Position) (c : Intercept) (r : Report) :
    (s.place r).setSlot p c = (s.setSlot p c).place r := by
  by_cases h : s.reports.length < 32 <;> simp [State.place, State.setSlot, h]

/-- A record placed with room joins the queue (R166). -/
theorem State.place_of_room {r : Report} (h : s.reports.length < 32) :
    s.place r = { s with reports := s.reports ++ [r] } := by
  simp [State.place, h]

/-- A record placed at a full queue is discarded and counted (R166, R168). -/
theorem State.place_of_full {r : Report} (h : 32 ≤ s.reports.length) :
    s.place r = { s with lost := min 255 (s.lost + 1) } := by
  simp [State.place, Nat.not_lt.mpr h]

@[simp] theorem State.addAccrued_pending (n : Nat) : (s.addAccrued n).pending = s.pending := rfl
@[simp] theorem State.addAccrued_booths (n : Nat) : (s.addAccrued n).booths = s.booths := rfl
@[simp] theorem State.addAccrued_slots (n : Nat) : (s.addAccrued n).slots = s.slots := rfl
@[simp] theorem State.addAccrued_arrears (n : Nat) : (s.addAccrued n).arrears = s.arrears := rfl
@[simp] theorem State.addAccrued_tariff (n : Nat) : (s.addAccrued n).tariff = s.tariff := rfl
@[simp] theorem State.addAccrued_schedule (n : Nat) : (s.addAccrued n).schedule = s.schedule := rfl
@[simp] theorem State.addAccrued_settings (n : Nat) : (s.addAccrued n).settings = s.settings := rfl
@[simp] theorem State.addAccrued_minute (n : Nat) : (s.addAccrued n).minute = s.minute := rfl
@[simp] theorem State.addAccrued_divider (n : Nat) : (s.addAccrued n).divider = s.divider := rfl
@[simp] theorem State.addAccrued_tickCount (n : Nat) : (s.addAccrued n).tickCount = s.tickCount := rfl
@[simp] theorem State.addAccrued_port (n : Nat) : (s.addAccrued n).port = s.port := rfl
@[simp] theorem State.addAccrued_sup (n : Nat) : (s.addAccrued n).sup = s.sup := rfl
@[simp] theorem State.addAccrued_scan (n : Nat) : (s.addAccrued n).scan = s.scan := rfl
@[simp] theorem State.addAccrued_reports (n : Nat) : (s.addAccrued n).reports = s.reports := rfl
@[simp] theorem State.addAccrued_lost (n : Nat) : (s.addAccrued n).lost = s.lost := rfl
@[simp] theorem State.addAccrued_resetAsserted (n : Nat) : (s.addAccrued n).resetAsserted = s.resetAsserted := rfl
@[simp] theorem State.addAccrued_powerUp (n : Nat) : (s.addAccrued n).powerUp = s.powerUp := rfl
@[simp] theorem State.addAccrued_lineLow (n : Nat) : (s.addAccrued n).lineLow = s.lineLow := rfl
@[simp] theorem State.addAccrued_strap (n : Nat) : (s.addAccrued n).strap = s.strap := rfl
@[simp] theorem State.addAccrued_draws (n : Nat) : (s.addAccrued n).draws = s.draws := rfl
@[simp] theorem State.addAccrued_booth (n : Nat) (q : Position) : (s.addAccrued n).booth q = s.booth q := rfl
@[simp] theorem State.addAccrued_slot (n : Nat) (q : Position) : (s.addAccrued n).slot q = s.slot q := rfl

@[simp] theorem State.addDebited_pending (n : Nat) : (s.addDebited n).pending = s.pending := rfl
@[simp] theorem State.addDebited_booths (n : Nat) : (s.addDebited n).booths = s.booths := rfl
@[simp] theorem State.addDebited_slots (n : Nat) : (s.addDebited n).slots = s.slots := rfl
@[simp] theorem State.addDebited_arrears (n : Nat) : (s.addDebited n).arrears = s.arrears := rfl
@[simp] theorem State.addDebited_tariff (n : Nat) : (s.addDebited n).tariff = s.tariff := rfl
@[simp] theorem State.addDebited_schedule (n : Nat) : (s.addDebited n).schedule = s.schedule := rfl
@[simp] theorem State.addDebited_settings (n : Nat) : (s.addDebited n).settings = s.settings := rfl
@[simp] theorem State.addDebited_minute (n : Nat) : (s.addDebited n).minute = s.minute := rfl
@[simp] theorem State.addDebited_divider (n : Nat) : (s.addDebited n).divider = s.divider := rfl
@[simp] theorem State.addDebited_tickCount (n : Nat) : (s.addDebited n).tickCount = s.tickCount := rfl
@[simp] theorem State.addDebited_port (n : Nat) : (s.addDebited n).port = s.port := rfl
@[simp] theorem State.addDebited_sup (n : Nat) : (s.addDebited n).sup = s.sup := rfl
@[simp] theorem State.addDebited_scan (n : Nat) : (s.addDebited n).scan = s.scan := rfl
@[simp] theorem State.addDebited_reports (n : Nat) : (s.addDebited n).reports = s.reports := rfl
@[simp] theorem State.addDebited_lost (n : Nat) : (s.addDebited n).lost = s.lost := rfl
@[simp] theorem State.addDebited_resetAsserted (n : Nat) : (s.addDebited n).resetAsserted = s.resetAsserted := rfl
@[simp] theorem State.addDebited_powerUp (n : Nat) : (s.addDebited n).powerUp = s.powerUp := rfl
@[simp] theorem State.addDebited_lineLow (n : Nat) : (s.addDebited n).lineLow = s.lineLow := rfl
@[simp] theorem State.addDebited_strap (n : Nat) : (s.addDebited n).strap = s.strap := rfl
@[simp] theorem State.addDebited_draws (n : Nat) : (s.addDebited n).draws = s.draws := rfl
@[simp] theorem State.addDebited_booth (n : Nat) (q : Position) : (s.addDebited n).booth q = s.booth q := rfl
@[simp] theorem State.addDebited_slot (n : Nat) (q : Position) : (s.addDebited n).slot q = s.slot q := rfl

@[simp] theorem State.addDropped_pending (n : Nat) : (s.addDropped n).pending = s.pending := rfl
@[simp] theorem State.addDropped_booths (n : Nat) : (s.addDropped n).booths = s.booths := rfl
@[simp] theorem State.addDropped_slots (n : Nat) : (s.addDropped n).slots = s.slots := rfl
@[simp] theorem State.addDropped_arrears (n : Nat) : (s.addDropped n).arrears = s.arrears := rfl
@[simp] theorem State.addDropped_tariff (n : Nat) : (s.addDropped n).tariff = s.tariff := rfl
@[simp] theorem State.addDropped_schedule (n : Nat) : (s.addDropped n).schedule = s.schedule := rfl
@[simp] theorem State.addDropped_settings (n : Nat) : (s.addDropped n).settings = s.settings := rfl
@[simp] theorem State.addDropped_minute (n : Nat) : (s.addDropped n).minute = s.minute := rfl
@[simp] theorem State.addDropped_divider (n : Nat) : (s.addDropped n).divider = s.divider := rfl
@[simp] theorem State.addDropped_tickCount (n : Nat) : (s.addDropped n).tickCount = s.tickCount := rfl
@[simp] theorem State.addDropped_port (n : Nat) : (s.addDropped n).port = s.port := rfl
@[simp] theorem State.addDropped_sup (n : Nat) : (s.addDropped n).sup = s.sup := rfl
@[simp] theorem State.addDropped_scan (n : Nat) : (s.addDropped n).scan = s.scan := rfl
@[simp] theorem State.addDropped_reports (n : Nat) : (s.addDropped n).reports = s.reports := rfl
@[simp] theorem State.addDropped_lost (n : Nat) : (s.addDropped n).lost = s.lost := rfl
@[simp] theorem State.addDropped_resetAsserted (n : Nat) : (s.addDropped n).resetAsserted = s.resetAsserted := rfl
@[simp] theorem State.addDropped_powerUp (n : Nat) : (s.addDropped n).powerUp = s.powerUp := rfl
@[simp] theorem State.addDropped_lineLow (n : Nat) : (s.addDropped n).lineLow = s.lineLow := rfl
@[simp] theorem State.addDropped_strap (n : Nat) : (s.addDropped n).strap = s.strap := rfl
@[simp] theorem State.addDropped_draws (n : Nat) : (s.addDropped n).draws = s.draws := rfl
@[simp] theorem State.addDropped_booth (n : Nat) (q : Position) : (s.addDropped n).booth q = s.booth q := rfl
@[simp] theorem State.addDropped_slot (n : Nat) (q : Position) : (s.addDropped n).slot q = s.slot q := rfl

@[simp] theorem State.reach_pending (n : Nat) : (s.reach n).pending = s.pending := rfl
@[simp] theorem State.reach_booths (n : Nat) : (s.reach n).booths = s.booths := rfl
@[simp] theorem State.reach_slots (n : Nat) : (s.reach n).slots = s.slots := rfl
@[simp] theorem State.reach_arrears (n : Nat) : (s.reach n).arrears = s.arrears := rfl
@[simp] theorem State.reach_tariff (n : Nat) : (s.reach n).tariff = s.tariff := rfl
@[simp] theorem State.reach_schedule (n : Nat) : (s.reach n).schedule = s.schedule := rfl
@[simp] theorem State.reach_settings (n : Nat) : (s.reach n).settings = s.settings := rfl
@[simp] theorem State.reach_minute (n : Nat) : (s.reach n).minute = s.minute := rfl
@[simp] theorem State.reach_divider (n : Nat) : (s.reach n).divider = s.divider := rfl
@[simp] theorem State.reach_tickCount (n : Nat) : (s.reach n).tickCount = s.tickCount := rfl
@[simp] theorem State.reach_sup (n : Nat) : (s.reach n).sup = s.sup := rfl
@[simp] theorem State.reach_scan (n : Nat) : (s.reach n).scan = s.scan := rfl
@[simp] theorem State.reach_reports (n : Nat) : (s.reach n).reports = s.reports := rfl
@[simp] theorem State.reach_lost (n : Nat) : (s.reach n).lost = s.lost := rfl
@[simp] theorem State.reach_resetAsserted (n : Nat) : (s.reach n).resetAsserted = s.resetAsserted := rfl
@[simp] theorem State.reach_powerUp (n : Nat) : (s.reach n).powerUp = s.powerUp := rfl
@[simp] theorem State.reach_lineLow (n : Nat) : (s.reach n).lineLow = s.lineLow := rfl
@[simp] theorem State.reach_strap (n : Nat) : (s.reach n).strap = s.strap := rfl
@[simp] theorem State.reach_ledger (n : Nat) : (s.reach n).ledger = s.ledger := rfl
@[simp] theorem State.reach_draws (n : Nat) : (s.reach n).draws = s.draws := rfl
@[simp] theorem State.reach_booth (n : Nat) (q : Position) : (s.reach n).booth q = s.booth q := rfl
@[simp] theorem State.reach_slot (n : Nat) (q : Position) : (s.reach n).slot q = s.slot q := rfl

/-! ## When events are taken -/

/-- With no reset asserted an event is taken (R89, R139, R141). -/
@[simp] theorem State.live_of_running {s : State} (h : s.running) (f : State → State) : s.live f = f s := by
  simp only [State.running] at h
  simp [State.live, h]

/-- While a reset is asserted no event is taken. -/
@[simp] theorem State.live_of_asserted {s : State} (h : s.resetAsserted = true) (f : State → State) : s.live f = s := by
  simp [State.live, h]

/-- In a frame the bytes act (R89). -/
@[simp] theorem State.inFrame_of_taking {s : State} (h : s.taking) (f : State → State) : s.inFrame f = f s := by
  simp only [State.taking] at h
  simp [State.inFrame, State.live, h.1, h.2]

/-- Outside a frame no byte acts (R89). -/
theorem State.inFrame_of_not_taking {s : State} (h : ¬ s.taking) (f : State → State) : s.inFrame f = s := by
  unfold State.inFrame State.live State.taking at *
  cases h1 : s.resetAsserted <;> cases h2 : s.port.inProgress <;> simp_all

end Sys2Proof.Machine
end

