-- ==== Sys2Proof/Laws/Ops.lean ====
section
/-! SUPPORT. What each shared operation can do, said once: which contexts it touches, what it leaves alone, and its outcomes. -/

namespace Sys2Proof.Machine

/-! ## Same rest -/

theorem SameRest.refl (s : State) : SameRest s s :=
  ⟨⟨rfl, rfl, rfl, rfl⟩, ⟨rfl, rfl, rfl, rfl, ⟨rfl, rfl, rfl, rfl⟩, rfl, rfl⟩, rfl⟩

theorem SameRest.trans {s t u : State} (h : SameRest s t) (h' : SameRest t u) : SameRest s u := by
  unfold SameRest SameTables SameClocks SameReset at *
  grind

theorem SameRest.symm {s t : State} (h : SameRest s t) : SameRest t s := by
  unfold SameRest SameTables SameClocks SameReset at *
  grind

theorem sameRest_setBooth (s : State) (p : Position) (b : Booth) : SameRest s (s.setBooth p b) := SameRest.refl s
theorem sameRest_setSlot (s : State) (p : Position) (c : Intercept) : SameRest s (s.setSlot p c) := SameRest.refl s
theorem sameRest_onBooth (s : State) (p : Position) (f : Booth → Booth) : SameRest s (s.onBooth p f) := SameRest.refl s
theorem sameRest_onSlot (s : State) (p : Position) (f : Intercept → Intercept) : SameRest s (s.onSlot p f) :=
  SameRest.refl s
theorem sameRest_addAccrued (s : State) (n : Nat) : SameRest s (s.addAccrued n) := SameRest.refl s
theorem sameRest_addDebited (s : State) (n : Nat) : SameRest s (s.addDebited n) := SameRest.refl s
theorem sameRest_addDropped (s : State) (n : Nat) : SameRest s (s.addDropped n) := SameRest.refl s
theorem sameRest_arrears (s : State) (l : List ArrearsEntry) : SameRest s { s with arrears := l } := SameRest.refl s
theorem sameRest_place (s : State) (r : Report) : SameRest s (s.place r) := by
  simp [SameRest, SameTables, SameClocks, SameReset]

/-! ## Acting at one position -/

/-- An operation that acts on the contexts of `p`, the arrears, the reports and the account only. -/
structure LocalAt (p : Position) (s t : State) : Prop where
  booths : OtherBooths p s t
  slots : OtherSlots p s t
  rest : SameRest s t

theorem LocalAt.refl (p : Position) (s : State) : LocalAt p s s := ⟨fun _ _ => rfl, fun _ _ => rfl, SameRest.refl s⟩

theorem LocalAt.trans {p : Position} {s t u : State} (h : LocalAt p s t) (h' : LocalAt p t u) : LocalAt p s u :=
  ⟨fun q hq => (h'.booths q hq).trans (h.booths q hq), fun q hq => (h'.slots q hq).trans (h.slots q hq),
    h.rest.trans h'.rest⟩

theorem localAt_setBooth (s : State) (p : Position) (b : Booth) : LocalAt p s (s.setBooth p b) :=
  ⟨fun _ hq => by simp [hq], fun _ _ => rfl, SameRest.refl s⟩

theorem localAt_setSlot (s : State) (p : Position) (c : Intercept) : LocalAt p s (s.setSlot p c) :=
  ⟨fun _ _ => rfl, fun _ hq => by simp [hq], SameRest.refl s⟩

theorem localAt_onBooth (s : State) (p : Position) (f : Booth → Booth) : LocalAt p s (s.onBooth p f) :=
  localAt_setBooth s p _

theorem localAt_onSlot (s : State) (p : Position) (f : Intercept → Intercept) : LocalAt p s (s.onSlot p f) :=
  localAt_setSlot s p _

theorem localAt_place (s : State) (p : Position) (r : Report) : LocalAt p s (s.place r) :=
  ⟨fun _ _ => by simp, fun _ _ => by simp, sameRest_place s r⟩

theorem localAt_placeIf (s : State) (p : Position) (c : Bool) (r : Report) : LocalAt p s (s.placeIf c r) := by
  unfold State.placeIf
  split
  · exact localAt_place ..
  · exact LocalAt.refl p s

theorem localAt_addAccrued (s : State) (p : Position) (n : Nat) : LocalAt p s (s.addAccrued n) :=
  ⟨fun _ _ => rfl, fun _ _ => rfl, SameRest.refl s⟩
theorem localAt_addDebited (s : State) (p : Position) (n : Nat) : LocalAt p s (s.addDebited n) :=
  ⟨fun _ _ => rfl, fun _ _ => rfl, SameRest.refl s⟩
theorem localAt_addDropped (s : State) (p : Position) (n : Nat) : LocalAt p s (s.addDropped n) :=
  ⟨fun _ _ => rfl, fun _ _ => rfl, SameRest.refl s⟩
theorem localAt_arrears (s : State) (p : Position) (l : List ArrearsEntry) : LocalAt p s { s with arrears := l } :=
  ⟨fun _ _ => rfl, fun _ _ => rfl, SameRest.refl s⟩

theorem localAt_dropUnits (s : State) (p : Position) (n : Nat) (cause : DropCause) : LocalAt p s (s.dropUnits p n cause) :=
  (localAt_place s p _).trans (localAt_addDropped _ p n)

theorem localAt_dropNoSerial (s : State) (p : Position) (n : Nat) : LocalAt p s (s.dropNoSerial p n) := by
  unfold State.dropNoSerial
  split
  · exact localAt_dropUnits ..
  · exact (localAt_dropUnits ..).trans (localAt_dropUnits ..)

theorem localAt_dropEntry (s : State) (p : Position) (e : ArrearsEntry) (cause : EntryDropCause) :
    LocalAt p s (s.dropEntry e cause) := by
  exact ((localAt_place ..).trans (localAt_placeIf ..)).trans (localAt_addDropped ..)

theorem localAt_enterGrace (s : State) (p : Position) : LocalAt p s (s.enterGrace p) := localAt_onBooth ..

/-- Evaluating available credit does one of three things (R3, R12, R14): nothing, entry to GRACE from CALL with credit
of 0 or less, or return to CALL from GRACE with credit above 0 and an identified card. -/
theorem evaluate_cases (s : State) (p : Position) :
    s.evaluate p = s ∨
    (s.evaluate p = s.enterGrace p ∧ (s.booth p).state = .call ∧ ∃ c, s.credit p = some c ∧ c ≤ 0) ∨
    (s.evaluate p = s.setBooth p { s.booth p with state := .call, grace := 0 } ∧ (s.booth p).state = .grace ∧
      (s.booth p).present = .yes ∧ (s.booth p).serial.isSome = true ∧ ∃ c, s.credit p = some c ∧ 0 < c) := by
  unfold State.evaluate
  cases h : s.credit p with
  | none => simp
  | some c => grind [State.onBooth_eq]

theorem localAt_evaluate (s : State) (p : Position) : LocalAt p s (s.evaluate p) := by
  rcases evaluate_cases s p with h | ⟨h, -⟩ | ⟨h, -⟩ <;> rw [h]
  · exact LocalAt.refl p s
  · exact localAt_enterGrace s p
  · exact localAt_setBooth s p _

/-- Evaluating available credit moves the state and the grace countdown of that booth and nothing else. -/
theorem evaluate_frame (s : State) (p : Position) :
    s.evaluate p = s.setBooth p { s.booth p with state := ((s.evaluate p).booth p).state,
                                                 grace := ((s.evaluate p).booth p).grace } := by
  rcases evaluate_cases s p with h | ⟨h, -⟩ | ⟨h, -⟩ <;> rw [h]
  · exact (State.setBooth_booth s p).symm
  · simp [State.enterGrace]
  · simp

/-- Evaluating available credit, in the terms of the statements (R3, R12, R14). -/
theorem evaluate_eq (s : State) (p : Position) :
    s.evaluate p = s.setBooth p ((s.booth p).evaluated (s.slot p) s.settings.graceTime) := by
  have hs : (s.booth p).serial.isSome = ((s.booth p).serialHigh.isSome && (s.booth p).serialLow.isSome) := by
    unfold Booth.serial
    cases (s.booth p).serialHigh <;> cases (s.booth p).serialLow <;> rfl
  unfold State.evaluate Booth.evaluated State.credit credit
  obtain hk | ⟨n, hk⟩ := Option.eq_none_or_eq_some (s.booth p).known
  · simp [hk]
  · simp only [hk, Option.pure_def, Option.bind_eq_bind, Option.bind_some, Option.map_some, hs, Bool.and_eq_true, and_assoc,
      State.enterGrace, State.onBooth_eq, State.graceTicks]
    split
    · rfl
    · split
      · rfl
      · exact (State.setBooth_booth s p).symm

/-- In a state other than CALL and GRACE an evaluation changes nothing (R3). -/
theorem evaluate_of_not_charging {s : State} {p : Position} (h : (s.booth p).state ≠ .call)
    (h' : (s.booth p).state ≠ .grace) : s.evaluate p = s := by
  rcases evaluate_cases s p with h1 | ⟨-, h2, -⟩ | ⟨-, h2, -⟩
  · exact h1
  · exact absurd h2 h
  · exact absurd h2 h'

/-- While the known balance is absent an evaluation changes nothing (R3). -/
theorem evaluate_of_unknown {s : State} {p : Position} (h : (s.booth p).known = none) : s.evaluate p = s := by
  simp [State.evaluate, State.credit, Machine.credit, h]

theorem localAt_enterClearing (s : State) (p : Position) (cause : ClearCause) : LocalAt p s (s.enterClearing p cause) :=
  (localAt_onBooth ..).trans (localAt_place ..)

theorem localAt_clearSaturated (s : State) (p : Position) : LocalAt p s (s.clearSaturated p) := by
  unfold State.clearSaturated
  split
  · exact localAt_enterClearing ..
  · exact LocalAt.refl p s

theorem localAt_addOwed (s : State) (p : Position) (n : Nat) : LocalAt p s (s.addOwed p n) := by
  unfold State.addOwed
  dsimp only
  split
  · exact localAt_onBooth ..
  · exact (localAt_onBooth ..).trans (localAt_dropUnits ..)

theorem localAt_charge (s : State) (p : Position) (n : Nat) : LocalAt p s (s.charge p n) := by
  unfold State.charge
  split
  · exact (localAt_addOwed ..).trans (localAt_clearSaturated ..)
  · exact localAt_addOwed ..

/-- Units that fit are added to W and nothing else happens (R39). -/
theorem charge_of_fits {s : State} {p : Position} {n : Nat} (h : (s.booth p).owed + n ≤ 65535) :
    s.charge p n = s.setBooth p { s.booth p with owed := (s.booth p).owed + n } := by
  simp [State.charge, State.saturates, State.addOwed, Nat.not_lt.mpr h, h]

/-- Units that do not fit leave W at 65,535, the excess dropped and reported, and a booth in CALL or GRACE goes to
CLEARING (R40). -/
theorem charge_of_saturates {s : State} {p : Position} {n : Nat} (h : 65535 < (s.booth p).owed + n) :
    s.charge p n =
      (((s.setBooth p { s.booth p with owed := 65535 }).dropUnits p ((s.booth p).owed + n - 65535) .saturated).clearSaturated
        p) := by
  simp [State.charge, State.saturates, State.addOwed, h, Nat.not_le.mpr h]

theorem localAt_settlePending (s : State) (p : Position) : LocalAt p s (s.settlePending p) := by
  unfold State.settlePending
  split
  · exact (((localAt_onBooth ..).trans (localAt_addDebited ..)).trans (localAt_charge ..)).trans (localAt_evaluate ..)
  · exact LocalAt.refl p s

/-- Without a pending resolution there is nothing to settle (R62). -/
theorem settlePending_of_none {s : State} {p : Position} (h : (s.booth p).pendingRes = none) : s.settlePending p = s := by
  simp [State.settlePending, h]

theorem localAt_takePair (s : State) (p : Position) (q : Pair) : LocalAt p s (s.takePair p q) := by
  unfold State.takePair
  split
  · exact (localAt_onBooth ..).trans (localAt_settlePending ..)
  · exact localAt_dropUnits ..

theorem localAt_setKnown (s : State) (p : Position) (n : Nat) : LocalAt p s (s.setKnown p n) := by
  unfold State.setKnown
  split
  · exact LocalAt.refl p s
  · exact (((localAt_onBooth ..).trans (localAt_onSlot ..)).trans (localAt_settlePending ..)).trans (localAt_evaluate ..)

/-- The known balance set to the value it holds has no consequence (R2). -/
@[simp] theorem setKnown_of_same {s : State} {p : Position} {n : Nat} (h : (s.booth p).known = some n) :
    s.setKnown p n = s := by
  simp [State.setKnown, h]

theorem localAt_learnBalance (s : State) (p : Position) (n : Nat) (own : Bool) : LocalAt p s (s.learnBalance p n own) := by
  unfold State.learnBalance
  split
  · exact localAt_setKnown ..
  · exact (localAt_onSlot ..).trans (localAt_setKnown ..)

/-- In a slot of the part's own a balance learned touches no held READ (R53). -/
@[simp] theorem learnBalance_own (s : State) (p : Position) (n : Nat) : s.learnBalance p n true = s.setKnown p n := by
  simp [State.learnBalance]

/-- The balance learned as it is held has no consequence (R2). -/
@[simp] theorem learnBalance_of_same {s : State} {p : Position} {n : Nat} (h : (s.booth p).known = some n) (own : Bool) :
    s.learnBalance p n own = s := by
  simp [State.learnBalance, h]

theorem localAt_collect (s : State) (p : Position) (serial : Nat) : LocalAt p s (s.collect p serial) := by
  unfold State.collect
  split
  · exact LocalAt.refl p s
  · dsimp only
    split
    · exact (((localAt_arrears ..).trans (localAt_place ..)).trans (localAt_charge ..)).trans (localAt_takePair ..)
    · exact ((localAt_arrears ..).trans (localAt_place ..)).trans (localAt_charge ..)

/-- An identification of a serial that the list does not hold collects nothing (R80). -/
theorem collect_of_none {s : State} {p : Position} {n : Nat} (h : findEntry s.arrears n = none) :
    s.collect p n = s := by
  simp [State.collect, h]

theorem localAt_startCall (s : State) (p : Position) : LocalAt p s (s.startCall p) := by
  unfold State.startCall
  dsimp only
  split
  · exact (((localAt_onBooth ..).trans (localAt_addAccrued ..)).trans (localAt_charge ..)).trans (localAt_evaluate ..)
  · exact (localAt_onBooth ..).trans (localAt_enterClearing ..)

theorem localAt_startOpen (s : State) (p : Position) : LocalAt p s (s.startOpen p) := localAt_onBooth ..

theorem localAt_startFaultCall (s : State) (p : Position) : LocalAt p s (s.startFaultCall p) :=
  (localAt_onBooth ..).trans (localAt_place ..)

theorem localAt_startResumed (s : State) (p : Position) : LocalAt p s (s.startResumed p) := by
  unfold State.startResumed
  dsimp only
  split
  · split
    · exact (localAt_onBooth ..).trans (localAt_evaluate ..)
    · exact (localAt_onBooth ..).trans (localAt_enterGrace ..)
  · exact (localAt_onBooth ..).trans (localAt_enterClearing ..)

theorem localAt_answerRise (s : State) (p : Position) : LocalAt p s (s.answerRise p) := by
  unfold State.answerRise
  split
  · exact localAt_startCall ..
  · exact localAt_startOpen ..
  · exact localAt_startFaultCall ..
  all_goals exact LocalAt.refl p s

theorem localAt_checkResume (s : State) (p : Position) : LocalAt p s (s.checkResume p) := by
  unfold State.checkResume State.resumeFound
  split
  · split
    · exact (localAt_onBooth ..).trans (localAt_startFaultCall ..)
    · split
      · exact LocalAt.refl p s
      · exact localAt_startResumed ..
  · exact localAt_onBooth ..
  · exact LocalAt.refl p s

theorem localAt_insertCard (s : State) (p : Position) : LocalAt p s (s.insertCard p) := by
  unfold State.insertCard
  dsimp only
  split
  · exact (localAt_setBooth ..).trans (localAt_startResumed ..)
  · exact localAt_setBooth ..

theorem localAt_afterRemoval (s : State) (p : Position) : LocalAt p s (s.afterRemoval p) := by
  unfold State.afterRemoval
  split
  · exact localAt_onBooth ..
  · exact localAt_enterGrace ..
  all_goals exact LocalAt.refl p s

theorem localAt_identified (s : State) (p : Position) : LocalAt p s (s.identified p) := by
  unfold State.identified
  split
  · exact LocalAt.refl p s
  · exact ((localAt_onBooth ..).trans (localAt_collect ..)).trans (localAt_evaluate ..)

theorem localAt_openRecord (s : State) (p : Position) (r : SlotRecord) (a : WordAddr) (v : Nat) :
    LocalAt p s (s.openRecord p r a v) :=
  ((localAt_onBooth ..).trans (localAt_onSlot ..)).trans (localAt_evaluate ..)

theorem localAt_settleRecord (s : State) (p : Position) (r : InFlight) (v : Nat) (own : Bool) :
    LocalAt p s (s.settleRecord p r v own) :=
  ((((localAt_onSlot ..).trans (localAt_addDebited ..)).trans (localAt_charge ..)).trans (localAt_learnBalance ..)).trans
    (localAt_evaluate ..)

theorem localAt_notPerformed (s : State) (p : Position) (r : InFlight) : LocalAt p s (s.notPerformed p r) := by
  unfold State.notPerformed
  split
  · split
    · exact localAt_settleRecord ..
    · exact localAt_onSlot ..
  · exact localAt_onSlot ..

/-! ## Units that leave a booth -/

/-- An opening that is no direct transfer touches no booth and no slot: only the list, the reports and the account
(R73 to R76). -/
theorem localAt_openInList (s : State) (q p : Position) (serial u : Nat) (pair : Option Pair) :
    LocalAt p s (s.openInList q serial u pair) := by
  have drop : ∀ (s : State) n c, LocalAt p s (s.dropUnits q n c) := fun s n c =>
    (localAt_place s p _).trans (localAt_addDropped _ p n)
  have h1 : ∀ (s : State) x, LocalAt p s (s.dropEvicted x) := by
    intro s x
    cases x with
    | none => exact LocalAt.refl ..
    | some e => exact localAt_dropEntry ..
  have h2 : ∀ (s : State) n, LocalAt p s (s.dropExcess q n) := by
    intro s n
    unfold State.dropExcess
    split
    · exact drop ..
    · exact LocalAt.refl ..
  have h3 : ∀ (s : State) x, LocalAt p s (s.dropUnresolved q x) := by
    intro s x
    cases x with
    | none => exact LocalAt.refl ..
    | some k => exact drop ..
  exact ((((localAt_arrears s p _).trans (h1 ..)).trans (localAt_place ..)).trans (h2 ..)).trans (h3 ..)

theorem localAt_transferPair (s : State) (r : Position) (pair : Option Pair) : LocalAt r s (s.transferPair r pair) := by
  unfold State.transferPair
  split
  · exact LocalAt.refl ..
  · split
    · exact localAt_dropUnits ..
    · exact (localAt_addOwed ..).trans (localAt_addDebited ..)
    · exact localAt_onBooth ..

/-- A direct transfer acts at the receiving booth alone (R71). -/
theorem localAt_transfer (s : State) (q r : Position) (serial u : Nat) (pair : Option Pair) :
    LocalAt r s (s.transfer q r serial u pair) := by
  unfold State.transfer
  dsimp only
  have h := ((localAt_place s r (.opened q serial u pair)).trans
    (localAt_place _ r (.collected r serial u (s.handedK r pair)))).trans (localAt_addOwed _ r u)
  have h' := h.trans (localAt_transferPair _ r pair)
  split
  · refine (h'.trans (localAt_clearSaturated ..)).trans ?_
    simpa using localAt_evaluate ..
  · refine h'.trans ?_
    simpa using localAt_evaluate ..

theorem sameRest_openArrears (s : State) (q : Position) (serial u : Nat) (pair : Option Pair) :
    SameRest s (s.openArrears q serial u pair) := by
  unfold State.openArrears
  split
  · exact (localAt_transfer ..).rest
  · exact (localAt_openInList s q q serial u pair).rest

theorem sameRest_sendOut (s : State) (p : Position) (debt : Option Nat) (u : Nat) (pair : Option Pair) :
    SameRest s (s.sendOut p debt u pair) := by
  unfold State.sendOut
  split
  · exact SameRest.refl s
  · split
    · exact sameRest_openArrears ..
    · exact (localAt_dropNoSerial ..).rest

/-- No units and no pair: nothing is opened or reported (R9). -/
@[simp] theorem sendOut_nothing (s : State) (p : Position) (debt : Option Nat) : s.sendOut p debt 0 none = s := by
  simp [State.sendOut]

theorem sameRest_removeCard (s : State) (p : Position) (fixed : Option Nat) : SameRest s (s.removeCard p fixed) := by
  unfold State.removeCard
  dsimp only
  exact (((sameRest_setBooth ..).trans (sameRest_setSlot ..)).trans (sameRest_sendOut ..)).trans
    (localAt_afterRemoval ..).rest

theorem sameRest_identify (s : State) (p : Position) : SameRest s (s.identify p) := by
  unfold State.identify
  dsimp only
  split
  · exact SameRest.refl s
  · split
    · exact (localAt_identified ..).rest
    · split
      · exact (sameRest_onBooth ..).trans (localAt_identified ..).rest
      · exact ((((sameRest_removeCard ..).trans (localAt_insertCard ..).rest)).trans (sameRest_onBooth ..)).trans
          (localAt_identified ..).rest

theorem sameRest_readHalf (s : State) (p : Position) (high : Bool) (v : Nat) : SameRest s (s.readHalf p high v) := by
  unfold State.readHalf
  split
  · exact ((sameRest_onBooth ..).trans (sameRest_onSlot ..)).trans (sameRest_identify ..)
  · split
    · exact SameRest.refl s
    · exact ((sameRest_removeCard ..).trans (localAt_insertCard ..).rest).trans (sameRest_onBooth ..)

theorem sameRest_endCall (s : State) (p : Position) : SameRest s (s.endCall p) := by
  unfold State.endCall
  dsimp only
  split
  · exact (sameRest_place ..).trans (sameRest_setBooth ..)
  · exact (((sameRest_place ..).trans (sameRest_setBooth ..)).trans (sameRest_sendOut ..)).trans (sameRest_onBooth ..)

theorem sameRest_endFaultCall (s : State) (p : Position) : SameRest s (s.endFaultCall p) :=
  ((sameRest_place ..).trans (sameRest_setBooth ..)).trans (sameRest_sendOut ..)

theorem sameRest_lineFall (s : State) (p : Position) : SameRest s (s.lineFall p) := by
  unfold State.lineFall
  split
  · split
    · exact sameRest_endFaultCall ..
    · exact sameRest_endCall ..
  · split
    · exact sameRest_onBooth ..
    · exact SameRest.refl s

theorem sameRest_enterFault (s : State) (p : Position) : SameRest s (s.enterFault p) :=
  ((((sameRest_place ..).trans (sameRest_setBooth ..)).trans (sameRest_setSlot ..)).trans (sameRest_sendOut ..)).trans
    (localAt_placeIf _ p _ _).rest

theorem sameRest_declareFault (s : State) (p : Position) : SameRest s (s.declareFault p) := by
  unfold State.declareFault
  split
  · exact (sameRest_place ..).trans (sameRest_onSlot ..)
  · exact sameRest_enterFault ..

theorem sameRest_leaveFault (s : State) (p : Position) : SameRest s (s.leaveFault p) :=
  ((((sameRest_setBooth ..).trans (sameRest_onSlot ..)).trans (sameRest_sendOut ..)).trans
    (localAt_placeIf _ p _ _).rest).trans (sameRest_onBooth ..)

/-! ## Every position in turn -/

/-- What each turn keeps, the whole pass keeps. -/
theorem forAll_induct {P : State → Prop} {f : Position → State → State} (h : ∀ p s, P s → P (f p s)) (s : State)
    (hs : P s) : P (s.forAll f) := by
  unfold State.forAll
  generalize positions = l
  induction l generalizing s with
  | nil => exact hs
  | cons p l ih => exact ih _ (h p s hs)

theorem sameRest_forAll {f : Position → State → State} (h : ∀ p s, SameRest s (f p s)) (s : State) :
    SameRest s (s.forAll f) :=
  forAll_induct (P := fun t => SameRest s t) (fun p t ht => ht.trans (h p t)) s (SameRest.refl s)

/-- A pass whose every turn writes the contexts of its own position, from those contexts alone, maps every context. -/
theorem booth_forAll {f : Position → State → State} {g : Position → Booth → Intercept → Booth}
    {k : Position → Booth → Intercept → Intercept} (hb : ∀ p s, (f p s).booth p = g p (s.booth p) (s.slot p))
    (hk : ∀ p s, (f p s).slot p = k p (s.booth p) (s.slot p)) (ho : ∀ p s, OtherBooths p s (f p s))
    (hs : ∀ p s, OtherSlots p s (f p s)) (s : State) (q : Position) :
    (s.forAll f).booth q = g q (s.booth q) (s.slot q) ∧ (s.forAll f).slot q = k q (s.booth q) (s.slot q) := by
  have aux : ∀ (l : List Position) (s : State), l.Nodup →
      ((l.foldl (fun s p => f p s) s).booth q = if q ∈ l then g q (s.booth q) (s.slot q) else s.booth q) ∧
      ((l.foldl (fun s p => f p s) s).slot q = if q ∈ l then k q (s.booth q) (s.slot q) else s.slot q) := by
    intro l
    induction l with
    | nil => simp
    | cons p l ih =>
      intro s hl
      rw [List.nodup_cons] at hl
      obtain ⟨h1, h2⟩ := ih (f p s) hl.2
      simp only [List.foldl_cons, h1, h2]
      by_cases hq : q = p
      · subst hq
        simp [hl.1, hb, hk]
      · simp [hq, ho p s q hq, hs p s q hq]
  have h := aux positions s positions_nodup
  simp only [mem_positions, if_true] at h
  exact h

end Sys2Proof.Machine
end

