-- ==== Sys2Proof/Laws/Slots.lean ====
section
/-! SUPPORT. What a request arrival and a reply arrival leave behind, in the terms of the statements. -/

namespace Sys2Proof.Machine

variable (s : State) (p : Position)

/-! ## Requests -/

/-- A request decided at its arrival, after the contexts of its position were written (R90, R105). -/
theorem send_contexts (b : Booth) (c : Intercept) (r : SlotRecord) (w : SlotBytes) :
    (((s.reach (requestIn p)).setBooth p b).setSlot p c).send p r w = s.requested p b c r w := by
  simp [State.send, State.requested, State.withContexts, Port.afterRequest, State.reach, requestIn, State.setBooth,
    State.setSlot, State.slot]

/-- A request decided at its arrival with the contexts as they were. -/
@[simp] theorem send_reach (r : SlotRecord) (w : SlotBytes) :
    (s.reach (requestIn p)).send p r w = s.requested p (s.booth p) (s.slot p) r w := by
  rw [← send_contexts]
  congr 1
  have h := State.setSlot_slot ((s.reach (requestIn p)).setBooth p (s.booth p)) p
  rw [State.setBooth_slot, State.reach_slot] at h
  rw [h]
  exact (State.setBooth_booth (s.reach (requestIn p)) p).symm

/-- A request decided at its arrival, after the interception context was written. -/
@[simp] theorem send_setSlot (c : Intercept) (r : SlotRecord) (w : SlotBytes) :
    ((s.reach (requestIn p)).setSlot p c).send p r w = s.requested p (s.booth p) c r w := by
  rw [← send_contexts]
  congr 2
  exact (State.setBooth_booth (s.reach (requestIn p)) p).symm

/-- A request decided at its arrival, after the booth context was written. -/
@[simp] theorem send_setBooth (b : Booth) (r : SlotRecord) (w : SlotBytes) :
    ((s.reach (requestIn p)).setBooth p b).send p r w = s.requested p b (s.slot p) r w := by
  rw [← send_contexts]
  congr 1
  exact (State.setSlot_slot ((s.reach (requestIn p)).setBooth p b) p).symm

/-- What the wire carries towards the reader of `p` after a request arrival there (R105). -/
theorem requested_downSlots (b : Booth) (c : Intercept) (r : SlotRecord) (w : SlotBytes) (q : Position) :
    (s.requested p b c r w).port.downSlots[q] = if q = p then some w else s.port.downSlots[q] := by
  simp only [State.requested, Port.afterRequest, Fin.getElem_fin, Vector.getElem_set, Fin.ext_iff, eq_comm]

/-! ## Replies -/

/-- A reply answered at its arrival, after the contexts of its position were written (R91, R120). -/
theorem answer_contexts (b : Booth) (c : Intercept) (u : UpReply) :
    (((s.reach (replyIn p)).setBooth p b).setSlot p c).answer p u = s.replied p b c u := by
  simp [State.answer, State.replied, State.withContexts, Port.afterReply, State.reach, replyIn, State.setBooth,
    State.setSlot, State.slot]

/-- A reply answered at its arrival with the contexts as they were. -/
@[simp] theorem answer_reach (u : UpReply) :
    (s.reach (replyIn p)).answer p u = s.replied p (s.booth p) (s.slot p) u := by
  rw [← answer_contexts]
  congr 1
  have h := State.setSlot_slot ((s.reach (replyIn p)).setBooth p (s.booth p)) p
  rw [State.setBooth_slot, State.reach_slot] at h
  rw [h]
  exact (State.setBooth_booth (s.reach (replyIn p)) p).symm

/-- A reply answered at its arrival, after the interception context was written. -/
@[simp] theorem answer_setSlot (c : Intercept) (u : UpReply) :
    ((s.reach (replyIn p)).setSlot p c).answer p u = s.replied p (s.booth p) c u := by
  rw [← answer_contexts]
  congr 2
  exact (State.setBooth_booth (s.reach (replyIn p)) p).symm

/-- A reply answered at its arrival, after the booth context was written. -/
@[simp] theorem answer_setBooth (b : Booth) (u : UpReply) :
    ((s.reach (replyIn p)).setBooth p b).answer p u = s.replied p b (s.slot p) u := by
  rw [← answer_contexts]
  congr 1
  exact (State.setSlot_slot ((s.reach (replyIn p)).setBooth p b) p).symm

/-- Step 6 touches the slot record of `p` and the upstream slot of `p`, and nothing else (R105, R120). -/
theorem answer_frame (u : UpReply) :
    s.answer p u = { s.setSlot p { s.slot p with record := none } with
                     port := { s.port with upSlots := s.port.upSlots.set p.val (some u) p.isLt } } := rfl

/-- The six steps of a reply arrival in a frame, with the reply shown decided by the slot record and the in-flight record as
step 1 left it (R120). -/
theorem reply_of_taking {s : State} (h : s.taking) (r : Reply) (w : SlotBytes) :
    s.reply p r w =
      ((s.reach (replyIn p)).takeReply p (s.slot p).record r).answer p
        (upstream (s.slot p).record (((s.reach (replyIn p)).presenceStep p r).slot p).inFlight r w) := by
  simp [State.reply, h]

end Sys2Proof.Machine
end

