-- ==== Sys2Proof/Tests/Slice0.lean ====
section
/-! SUPPORT. Tests: ill-formed terms, the layouts of chapter 12, one step of each command against the manual's worked cases, and a state that meets the hypotheses of each statement. -/

namespace Sys2Proof.Tests

set_option Elab.async false

open Sys2Proof.Machine

/-! ## Ill-formed terms -/

theorem test_kind_code_of_the_six_is_ill_formed : (Instr.unknownKind 3 5).wellFormed = false := by decide
theorem test_kind_code_outside_the_six_is_well_formed : (Instr.unknownKind 3 6).wellFormed = true := by decide
theorem test_reader_status_is_ill_formed_as_unknown :
    (Instr.unknownStatus 3 0x1000000000).wellFormed = false ∧ (Instr.unknownStatus 3 0x1600000000).wellFormed = false := by
  decide
theorem test_other_status_is_well_formed_as_unknown :
    (Instr.unknownStatus 3 0x0F00000000).wellFormed = true ∧ (Instr.unknownStatus 3 0x1700000000).wellFormed = true := by
  decide
theorem test_eleven_trailer_bytes_are_ill_formed :
    (Instr.trailerRecord 11).wellFormed = false ∧ (Instr.trailerRecord 10).wellFormed = true := by decide
theorem test_cut_after_the_frame_end_is_ill_formed :
    (Instr.frameStart 152).wellFormed = false ∧ (Instr.frameStart 151).wellFormed = true ∧
    (Instr.frameTimeout 152).wellFormed = false ∧ (Instr.frameTimeout 151).wellFormed = true := by decide

/-! ## Words of the layouts, written out from R174 to R176 and 12.5 -/

theorem test_requests_decode :
    decodeRequest 0 0x0000000000 = .null 0 ∧ decodeRequest 1 0x16ABCD1234 = .read 1 6 0xABCD1234 ∧
    decodeRequest 3 0x240026BEEF = .write 3 4 38 0xBEEF ∧ decodeRequest 3 0x340064FF9B = .protectedWrite 3 4 100 65435 ∧
    decodeRequest 23 0x4F00000001 = .lockedRead 23 15 1 ∧ decodeRequest 2 0x5000000000 = .unlock 2 ∧
    decodeRequest 0 0x9000000000 = .unknownKind 0 9 := by decide
theorem test_replies_decode :
    decodeReply 0 0x1000000000 = .absent 0 0 ∧ decodeReply 1 0x1100000001 = .ready 1 1 ∧
    decodeReply 5 0x120400D4EE = .data 5 4 212 0xEE ∧ decodeReply 5 0x13F4ABCDEF = .accepted 5 4 0xABCDEF ∧
    decodeReply 6 0x140F000000 = .busy 6 0xF000000 ∧ decodeReply 7 0x1504002600 = .written 7 4 38 0 ∧
    decodeReply 8 0x1600000000 = .error 8 0 ∧ decodeReply 23 0xFFFFFFFFFF = .unknownStatus 23 0xFFFFFFFFFF := by decide
theorem test_table_words_decode :
    decodeTable 0x010702030028 = some (.tariff 7 2 3 40) ∧ decodeTable 0x020204380200 = some (.schedule 2 1080 2) ∧
    decodeTable 0x030600090000 = some (.setting 6 9) ∧ decodeTable 0x040301000000 = some (.position 3 1) ∧
    decodeTable 0x050000000000 = none := by decide
theorem test_header_decodes :
    decodeHeader 0x0105A003010702030028 = .headerArrival 1 1440 3 0x010702030028 := by decide
theorem test_row_replies_are_laid_out :
    (UpReply.refused .excess 25).bytes = 0x2005001900 ∧ UpReply.held.bytes = 0x2100000000 ∧
    (UpReply.debited 57).bytes = 0x2204003900 ∧ (UpReply.passed 0x12040024EE).bytes = 0x12040024EE := by decide
theorem test_reports_are_laid_out :
    (Report.callEnd 3 { Booth.powerOn with callUnits := 34, bandAtAnswer := 7 }).bytes =
      [0x17, 0, 0, 0, 0, 0, 34, 3] ∧
    (Report.opened 4 515000 1 (some { prior := 120, new := 114, k := 6 })).bytes =
      [0x21, 0x00, 0x07, 0xDB, 0xB8, 0, 1, 0x84] ∧
    (Report.collected 17 515000 3 6).bytes = [0x91, 0x00, 0x07, 0xDB, 0xB8, 0, 3, 6] ∧
    (Report.clearDown 3 .saturated).bytes = [0x53, 3, 0, 0, 0, 0, 0, 0] ∧
    (Report.ofRow .highwayLost 0 0).bytes = [0x62, 0xFF, 0, 0, 0, 0, 0, 0] := by decide

/-! ## Small states -/

/-- The state that a command leaves. -/
def after (c : Instr) (s : State) : State :=
  match exec c s with
  | .next t => t
  | .fault _ => s
  | .refused _ => s

/-- A frame in progress on a running highway, frame number 0 seen. -/
def live : State :=
  { State.reset with
    port := { Port.reset with inProgress := true, frameNumber := some 0 },
    sup := { highway := .running, frameTimer := some 0, lossTimer := none, lossDuration := 0 } }

/-- A booth in CARD with an identified card of serial 200,728, band 2 and balance 40 (3.6, example). -/
def card : Booth :=
  { Booth.powerOn with state := .card, present := .yes, serialHigh := some 3, serialLow := some 4120, known := some 40,
                       band := some 2, resumed := .no }

/-- The booth of the example of 6.6: CALL, balance 30, W 4. -/
def caller : Booth :=
  { card with state := .call, callUp := true, known := some 30, owed := 4, rate := some 60, fraction := 900,
              callUnits := 4, lastSerial := some 200728, bandAtAnswer := 2 }

/-- An own WRITE of 26 in flight, all 4 units covered. -/
def writeRecord : InFlight := { origin := .own, word := 4, value := 26, prior := some 30, k := 4, frames := 0 }

/-- The slot of an own WRITE of 26 that awaits its reply. -/
def writeSlot : Intercept :=
  { Intercept.powerOn with
    held := some { request := .write 26, tries := 0 },
    record := some { origin := .own, sent := .write 4 26, treatment := .inserted true } }

/-- A slot of the row controller with a record in flight. -/
def flightSlot (r : InFlight) : Intercept :=
  { Intercept.powerOn with
    inFlight := some r, lock := 3, record := some { origin := .row, sent := .null, treatment := .passed } }

/-- One booth in a frame. -/
def one (p : Position) (b : Booth) (c : Intercept) : State := live.withContexts p b c

/-- The table of 2.11: entries (7, 1) and (7, 2), with slots that select period 1 from minute 360 and 2 from 1,080. -/
def priced (s : State) : State :=
  { s with
    tariff := s.tariff.set 7 #v[none, some { charge := 2, rate := 40 }, some { charge := 3, rate := 24 }, none],
    schedule := #v[some { minute := 360, period := 1 }, some { minute := 1080, period := 2 }, none, none, none, none,
                   none, none],
    minute := some 360 }

/-- A sense segment in progress at the column of `p`, with the records of its two signals. -/
def sensing (p : Position) (x y : Debounce) (s : State) : State :=
  { s with scan := { s.scan with column := columnOf p, segment := .sense, sampled := false,
                                 loop := s.scan.loop.set p.val x p.isLt, answer := s.scan.answer.set p.val y p.isLt } }

/-- The booth that has collected an entry with an uncertain pair (4.7). -/
def resolver : Booth :=
  { card with known := none, owed := 3, pendingRes := some { prior := 120, new := 114, k := 6 } }

/-- A held own READ of word 4 that awaits its reply. -/
def readSlot (tries : Nat) : Intercept :=
  { Intercept.powerOn with
    held := some { request := .read 4, tries := tries },
    record := some { origin := .own, sent := .read 4, treatment := .inserted true } }

/-- The slot of booth 20 in the cut frame of 5.3. -/
def cutSlot : Intercept :=
  { Intercept.powerOn with
    held := some { request := .write 57, tries := 0 },
    record := some { origin := .own, sent := .write 4 57, treatment := .inserted true } }

/-- Booth 12 of 2.11 after 25 ticks of its call. -/
def booth12 : Booth :=
  { caller with band := some 7, bandAtAnswer := 7, rate := some 40, fraction := 1000, callUnits := 3 }

/-- Booth 3 of 2.11 before it saturates. -/
def booth3 : Booth := { caller with known := none, owed := 65533, fraction := 900, rate := some 4095 }

/-- A frame with its trailer due. -/
def trailing (reports : List Report) (lost : Nat) : State :=
  { live with port := { live.port with trailerDue := true }, reports := reports, lost := lost }

/-- The highway is lost. -/
def lost (s : State) : State :=
  { s with sup := { highway := .lost, frameTimer := some 24576, lossTimer := some 4096000, lossDuration := 20 } }

/-- A signal that is high. -/
def high : Debounce := { level := some true, runLevel := true, runCount := 0 }

/-- A signal that is low and has been sampled high twice. -/
def rising : Debounce := { level := some false, runLevel := true, runCount := 2 }

/-- A signal that is high and has been sampled low twice. -/
def falling : Debounce := { level := some true, runLevel := false, runCount := 2 }

/-- A signal that is low. -/
def quiet : Debounce := { level := some false, runLevel := false, runCount := 0 }

/-- The sense segment has ended with its sample. -/
def sampled (s : State) : State := { s with scan := s.scan.endSense }

/-- A booth that waits for its card state with a call found up. -/
def waiting : Booth := { Booth.powerOn with firstLoop := some true, firstAnswer := some true }

/-- A booth whose card has just been inserted. -/
def inserted : Booth := { card with serialHigh := none, serialLow := none, known := none, band := none }

/-- A power-on reset after `n` periods. -/
def powering (n : Nat) (low : Bool) : State := { State.powerOn with powerUp := some n, lineLow := low }

/-! ## Resets and steps -/

theorem test_power_on_reset_clears_the_account :
    (after .powerOnReset { live with lost := 3, minute := some 5 }).minute = none := by decide +kernel
theorem test_warm_reset_moves_units_to_the_list :
    (after (.warmReset 8) (one 2 caller .powerOn)).arrears =
      [{ serial := 200728, owed := 4, pair := none, age := 0, origin := 2 }] := by decide +kernel
theorem test_pulse_of_two_periods_is_not_taken :
    after (.warmReset 2) (one 2 caller .powerOn) = one 2 caller .powerOn := by decide +kernel
theorem test_warm_resets_of_one_serial_merge :
    (after (.warmReset 8) ((one 2 caller .powerOn).withContexts 5 { caller with owed := 3 } .powerOn)).arrears =
      [{ serial := 200728, owed := 7, pair := none, age := 0, origin := 5 }] ∧
    (after (.warmReset 8) ((one 2 caller .powerOn).withContexts 5 { caller with owed := 3 } .powerOn)).reports.map
      Report.kind = [.warmRestart, .arrearsOpened, .arrearsOpened] := by decide +kernel
theorem test_release_samples_the_strap :
    (after (.resetRelease false) (powering 4096 true)).strap = some false ∧
    (after (.resetRelease false) (powering 4095 true)).resetAsserted = true := by decide +kernel
theorem test_power_on_reset_ends_after_4096_periods :
    (powering 4094 false).clockPeriod.resetAsserted = true ∧ (powering 4095 false).clockPeriod.resetAsserted = false ∧
    (powering 4095 true).clockPeriod = powering 4096 true := by decide +kernel
theorem test_empty_queue_counts_a_period :
    (match step State.reset with | .next t => t.divider | _ => 0) = 1 := by decide +kernel

/-! ## Requests (6.6, example; 3.4, example) -/

theorem test_null_carries_a_debit_write :
    (after (.null 14) (one 14 { card with state := .call, owed := 2 } .powerOn)).port.downSlots[14] =
      some 0x2400260000 := by decide +kernel
theorem test_null_reads_the_unknown_half :
    (after (.null 14) (one 14 { card with serialLow := none } .powerOn)).port.downSlots[14] = some 0x1100000000 := by
  decide +kernel
theorem test_read_is_passed :
    (after (.read 8 6 0xABCD1234) (one 8 caller .powerOn)).port.downSlots[8] = some 0x16ABCD1234 := by decide +kernel
theorem test_write_above_the_balance_is_refused :
    ((after (.write 8 4 31 0) (one 8 caller .powerOn)).slot 8).record =
      some { origin := .row, sent := .null, treatment := .killed .raise 31 } := by decide +kernel
theorem test_write_within_owed_units_is_passed :
    (after (.write 8 4 26 0xBEEF) (one 8 caller .powerOn)).port.downSlots[8] = some 0x24001ABEEF ∧
    (after (.write 8 4 25 0xBEEF) (one 8 caller .powerOn)).port.downSlots[8] = some 0 := by decide +kernel
theorem test_protected_write_needs_its_complement :
    (after (.protectedWrite 8 4 100 65434) (one 8 card .powerOn)).reports.map Report.kind = [.refusedWrite .complement] ∧
    (after (.protectedWrite 8 4 100 65435) (one 8 card .powerOn)).port.downSlots[8] = some 0x2400640000 := by
  decide +kernel
theorem test_protected_write_in_call_is_engaged :
    (after (.protectedWrite 8 4 100 65435) (one 8 caller .powerOn)).reports.map Report.kind =
      [.refusedWrite .engaged] := by decide +kernel
theorem test_locked_read_sets_the_lock :
    ((after (.lockedRead 8 4 0) (one 8 caller .powerOn)).slot 8).lock = 8 := by decide +kernel
theorem test_unlock_closes_the_lock :
    ((after (.unlock 8) (one 8 caller { Intercept.powerOn with lock := 3 })).slot 8).lock = 0 := by decide +kernel
theorem test_unknown_kind_is_refused :
    (after (.unknownKind 8 9) (one 8 caller .powerOn)).reports.map Report.aux = [9] := by decide +kernel

/-! ## Replies (1.11, 3.6, 4.7, 5.3, examples) -/

theorem test_absent_opens_arrears :
    (after (.absent 9 0) (one 9 { caller with owed := 1 } .powerOn)).arrears =
      [{ serial := 200728, owed := 1, pair := none, age := 0, origin := 9 }] ∧
    ((after (.absent 9 0) (one 9 { caller with owed := 1 } .powerOn)).booth 9).state = .grace := by decide +kernel
theorem test_ready_inserts_a_card :
    ((after (.ready 14 0) (one 14 .powerOn .powerOn)).booth 14).state = .card := by decide +kernel
theorem test_data_completes_the_serial :
    ((after (.data 14 1 4120 0) (one 14 { card with serialLow := none } .powerOn)).booth 14).serial = some 200728 := by
  decide +kernel
theorem test_data_settles_a_pending_resolution :
    ((after (.data 17 4 120 0) (one 17 resolver .powerOn)).booth 17).owed = 9 := by decide +kernel
theorem test_own_slot_keeps_a_held_read_at_written :
    ((after (.written 14 4 40 0) (one 14 { card with known := none } (readSlot 0))).slot 14).held =
      some { request := .read 4, tries := 0 } ∧
    ((after (.data 14 4 40 0) (one 14 { card with known := none } (readSlot 0))).slot 14).held = none := by decide +kernel
theorem test_other_traffic_drops_a_held_read :
    ((after (.data 14 4 40 0) (one 14 { card with known := none } { readSlot 0 with record := none })).slot 14).held =
      none := by decide +kernel
theorem test_accepted_covers_units :
    ((after (.accepted 8 4 0) (one 8 caller writeSlot)).booth 8).owed = 0 ∧
    ((after (.accepted 8 4 0) (one 8 caller writeSlot)).slot 8).inFlight = some writeRecord := by decide +kernel
theorem test_busy_keeps_the_record :
    ((after (.busy 8 0) (one 8 { caller with owed := 0 } (flightSlot writeRecord))).slot 8).inFlight = some writeRecord := by
  decide +kernel
theorem test_written_is_shown_as_debited :
    (after (.written 8 4 26 0) (one 8 { caller with owed := 0 } (flightSlot writeRecord))).port.upSlots[8] =
      some (.debited 26) := by decide +kernel
theorem test_written_of_the_prior_balance_returns_units :
    ((after (.written 8 4 30 0) (one 8 { caller with owed := 0 } (flightSlot writeRecord))).booth 8).owed = 4 := by
  decide +kernel
theorem test_error_counts_a_try :
    ((after (.error 14 0) (one 14 { card with known := none } (readSlot 0))).slot 14).held =
      some { request := .read 4, tries := 1 } := by decide +kernel
theorem test_unknown_status_is_shown_as_received :
    (after (.unknownStatus 14 0xFFFFFFFFFF) (one 14 card .powerOn)).port.upSlots[14] =
      some (.passed 0xFFFFFFFFFF) := by decide +kernel

/-! ## Frames and the highway (5.3 and 8.4, examples) -/

theorem test_cut_at_120_counts_slot_20_as_accepted :
    ((after (.frameStart 120) (one 20 { caller with known := some 60, owed := 3 } cutSlot)).slot 20).inFlight =
      some { origin := .own, word := 4, value := 57, prior := some 60, k := 3, frames := 0 } := by decide +kernel
theorem test_cut_before_emission_undoes_the_request :
    ((after (.frameStart 116) (one 20 { caller with known := some 60, owed := 3 } cutSlot)).slot 20) =
      .powerOn := by decide +kernel
theorem test_header_sets_minute_and_tariff :
    (after (.headerArrival 1 600 2 0x010702030028) live).minute = some 600 ∧
    (after (.headerArrival 1 600 2 0x010702030028) live).tariff[7][2] = some { charge := 3, rate := 40 } := by
  decide +kernel
theorem test_frame_sync_follows_the_strap :
    (after (.frameStart 0) { live with strap := some false }).port.downSync = some false := by decide +kernel
theorem test_downstream_trailer_is_re_emitted :
    (after (.frameEnd 0x00112233445566778899) live).port.downTrailer = some 0x00112233445566778899 := by decide +kernel
theorem test_frame_end_lowers_a_lock :
    ((after (.frameEnd 0) (one 8 caller { Intercept.powerOn with lock := 2 })).slot 8).lock = 1 := by decide +kernel
theorem test_lock_expires :
    (after (.lockExpired 8) (one 8 caller { Intercept.powerOn with lock := 1 })).reports.map Report.kind =
      [.lockExpired] := by decide +kernel
theorem test_write_timeout_is_a_fault :
    ((after (.writeTimeout 8) (one 8 { caller with owed := 0 } (flightSlot { writeRecord with frames := 15 }))).booth
      8).state = .fault := by decide +kernel
theorem test_trailer_removes_the_oldest_record :
    (after (.trailerRecord 10) (trailing [.ofRow .highwayLost 0 0] 2)).port.upTrailer =
      [0x62, 0xFF, 0, 0, 0, 0, 0, 0, 2, 0] := by decide +kernel
theorem test_short_trailer_keeps_the_record :
    (after (.trailerRecord 7) (trailing [.ofRow .highwayLost 0 0] 2)).reports.length = 1 := by
  decide +kernel
theorem test_record_placed_during_the_trailer_counts_in_the_level :
    (after (.trailerRecord 10) (after (.frameEnd 0) (after (.trailerRecord 8)
      { one 8 caller { Intercept.powerOn with lock := 1 } with port := (trailing [] 0).port }))).port.upTrailer =
        [0, 0, 0, 0, 0, 0, 0, 0, 0, 1] := by decide +kernel
theorem test_frame_timeout_keeps_the_pair :
    ((after (.frameTimeout 0) (one 2 { caller with known := some 80, owed := 0 }
      (flightSlot { writeRecord with prior := some 80, value := 77, k := 3 }))).booth 2).pendingRes =
      some { prior := 80, new := 77, k := 3 } := by decide +kernel
theorem test_long_loss_clears_a_call_down :
    ((after .longLost (lost (one 2 caller .powerOn))).booth 2).state = .clearing := by decide +kernel

/-! ## Table words (2.4, 9.5, examples) -/

theorem test_restart_closes_locks :
    ((after .restart (one 8 caller { Intercept.powerOn with lock := 3 })).slot 8).lock = 0 := by decide +kernel
theorem test_tariff_is_clamped :
    (after (.tariff 4 2 200 5000) live).tariff[4][2] = some { charge := 15, rate := 4095 } ∧
    after (.tariff 16 2 1 10) live = live := by decide +kernel
theorem test_schedule_slot_is_made_unused :
    (after (.schedule 1 2000 2) (priced live)).schedule[1] = none ∧ after (.schedule 8 600 1) live = live := by
  decide +kernel
theorem test_setting_is_clamped :
    (after (.setting 6 9) live).settings.parity = .odd ∧ after (.setting 14 3) live = live := by decide +kernel
theorem test_position_in_call_waits :
    ((after (.position 3 1) (one 3 caller .powerOn)).booth 3).pendingMode = some .free := by decide +kernel
theorem test_period_follows_the_schedule :
    (priced live).currentPeriod = 1 ∧ { priced live with minute := some 200 }.currentPeriod = 2 ∧
    { priced live with minute := some 1080 }.currentPeriod = 2 ∧ { priced live with minute := none }.currentPeriod = 0 := by
  decide +kernel

/-! ## Ticks (2.11 and 4.7, worked cases) -/

theorem test_tick_26_yields_a_unit :
    ((after .chargeTick (priced (one 12 booth12 .powerOn))).booth 12).callUnits = 4 ∧
    ((after .chargeTick (priced (one 12 booth12 .powerOn))).booth 12).fraction = 16 := by decide +kernel
theorem test_tick_saturates :
    (after .chargeTick (one 3 booth3 .powerOn)).reports =
      [.unitsDropped 3 2 .saturated, .clearDown 3 .saturated] := by decide +kernel
theorem test_grace_expires :
    ((after (.graceExpired 9) (one 9 { caller with state := .grace, grace := 1 } .powerOn)).booth 9).timer =
      some (.assert 5) := by decide +kernel
theorem test_assert_ends_in_a_gap_of_50 :
    ((after (.clearDownAssertEnd 9) (one 9 { caller with state := .clearing, timer := some (.assert 1) }
      .powerOn)).booth 9).timer = some (.gap 50) := by decide +kernel
theorem test_gap_ends_in_the_hold :
    ((after (.clearDownGapEnd 9) (one 9 { caller with state := .clearing, timer := some (.gap 1) }
      .powerOn)).booth 9).timer = some (.assert 5) := by decide +kernel
theorem test_flash_step_toggles : (after .flashStep live).scan.flash = false := by decide +kernel

/-- The three entries of the expiry case of 4.7. -/
def threeEntries : State :=
  { live with
    settings := { live.settings with retention := 21 },
    arrears := [{ serial := 1, owed := 5, pair := none, age := 12, origin := 0 },
                { serial := 2, owed := 6, pair := none, age := 20, origin := 1 },
                { serial := 3, owed := 7, pair := none, age := 25, origin := 2 }] }

theorem test_age_step_expires_two_entries :
    (after .ageStep threeEntries).arrears.map ArrearsEntry.serial = [1] ∧
    (after .ageStep threeEntries).reports.map Report.serial = [some 2, some 3] := by decide +kernel
theorem test_expiry_taken_alone :
    (after (.arrearsExpiry 2) threeEntries).arrears.map ArrearsEntry.serial = [1, 3] := by decide +kernel

/-! ## The line scan (7.3, example) -/

theorem test_scan_step_wraps :
    (after .scanStepStart { live with scan := { live.scan with column := 5, segment := .drive 0 } }).scan.column = 0 := by
  decide +kernel
theorem test_answer_rise_starts_the_call :
    ((after (.senseSample ⟨0xFF, 0x0C⟩) (sensing 13 high rising (priced (one 13 { card with band := some 7 } .powerOn)))).booth
      13).owed = 3 := by decide +kernel
theorem test_chatter_starts_no_call :
    ((after (.senseSample ⟨0xFF, 0x04⟩) (sensing 13 high rising (priced (one 13 card .powerOn)))).answerLine 13).runCount = 0 := by
  decide +kernel
theorem test_drive_segment_lights_the_lamp :
    (after .driveSegment (sampled (sensing 9 high high (one 9 { caller with state := .grace } .powerOn)))).scan.segment =
      .drive 0x08 := by decide +kernel
/-- 7.2: a booth whose interface drives no row reads LOOP and ANSWER low, here in their third sample so. -/
theorem test_undriven_rows_read_low :
    ((after (.senseSample ⟨0, 0xFF⟩) (sensing 13 falling falling live)).loop 13).level = some false ∧
    ((after (.senseSample ⟨0x04, 0xFF⟩) (sensing 13 falling falling live)).loop 13).level = some true ∧
    ((after (.senseSample ⟨0x04, 0xFF⟩) (sensing 13 falling falling live)).answerLine 13).level = some false := by
  decide +kernel
/-- 7.2: the sample ends the sense segment, and the period that follows is the first of the drive segment. -/
theorem test_sample_ends_the_sense_segment :
    (after (.senseSample ⟨0, 0⟩) (sensing 13 quiet quiet live)).scan.elapsed = 1024 ∧
    (after (.senseSample ⟨0, 0⟩) (sensing 13 quiet quiet live)).clockPeriod.scan.segment = .drive 0 ∧
    (after (.senseSample ⟨0, 0⟩) (sensing 13 quiet quiet live)).clockPeriod.scan.elapsed = 1 := by decide +kernel

/-! ## States that meet the hypotheses of the statements

Each theorem names the statement it is for. Where a statement has several clauses, there is one conjunct, or one theorem,
for each of them, at a boundary value of its range. -/

theorem witness_StepRunsFrontCommand :
    { live with pending := [.null 2, .frameEnd 0] }.pending = Instr.null 2 :: [Instr.frameEnd 0] := rfl

/-- The reset state with the given counters. -/
def clocked (divider elapsed : Nat) (frame loss : Option Nat) (segment : Segment) (sampled : Bool) : State :=
  { State.reset with
    divider := divider, sup := { highway := .lost, frameTimer := frame, lossTimer := loss, lossDuration := 0 },
    scan := { State.reset.scan with segment := segment, sampled := sampled, elapsed := elapsed } }

theorem witness_EmptyQueuePassesOneClockPeriod :
    { State.powerOn with powerUp := none }.resetAsserted = true ∧ State.powerOn.pending = [] ∧
    (powering 4094 false).powerUp = some 4094 ∧ 4094 + 1 < 4096 ∧ (powering 4095 true).powerUp = some 4095 ∧
    (powering 4095 true).lineLow = true ∧ (powering 4095 false).resetAsserted = true ∧ (powering 4095 false).lineLow = false ∧
    (clocked 0 1024 none none .sense true).pending = [] ∧ (clocked 0 1024 none none .sense true).running ∧
    (clocked 0 1024 none none .sense true).scan.segment = .sense ∧ (clocked 0 1024 none none .sense true).scan.sampled = true ∧
    (clocked 204798 1022 (some 24574) (some 4095998) .sense false).due = [] ∧
    (clocked 204799 0 none none .sense false).due = [.tick] ∧
    (clocked 0 0 (some 24575) none .sense false).due = [.frameTimer] ∧
    (clocked 0 0 none (some 4095999) .sense false).due = [.lossTimer] ∧
    (clocked 0 1023 none none .sense false).due = [.segment] ∧ (clocked 0 1023 none none .sense false).scan.sampled = false ∧
    (clocked 0 1023 none none (.drive 0) true).due = [.segment] ∧
    (clocked 204799 1023 (some 24575) (some 4095999) .sense false).due = [.frameTimer, .lossTimer, .tick, .segment] := by
  simp only [State.running]
  decide +kernel

theorem witness_resets :
    { State.powerOn with powerUp := none }.resetAsserted = true ∧ (∀ n, (powering 4096 true).powerUp = some n → 4096 ≤ n) ∧
    (powering 4095 true).powerUp = some 4095 ∧ live.running ∧ (one 2 caller .powerOn).running ∧
    outPair ((one 2 caller .powerOn).slot 2) ((one 2 caller .powerOn).booth 2) = none ∧
    ((one 2 caller .powerOn).booth 2).debtSerial = some 200728 ∧ ((one 2 caller .powerOn).booth 2).owed = 4 := by
  refine ⟨rfl, fun n h => ?_, ?_⟩
  · obtain rfl : 4096 = n := Option.some.inj h
    exact Nat.le_refl _
  · simp only [State.running]
    decide +kernel

/-- A frame is being taken at the state of one booth: for every statement about a request arrival. -/
theorem witness_requests (p : Position) (b : Booth) (c : Intercept) :
    (one p b c).taking ∧ (one p b c).port.frameNumber = some 0 := ⟨⟨rfl, rfl⟩, rfl⟩

/-- A booth in CALL with 4 units owed and an own WRITE due, at booth 2; a card at rest at booth 5. -/
def busy : State :=
  { (State.withContexts live 2 caller .powerOn).withContexts 5 { card with known := some 7 } .powerOn with
    ledger := { accrued := 9, debited := 3, dropped := 2 }, pending := [.null 2] }

theorem busy_booth (p : Position) :
    busy.booth p = if p = 5 then { card with known := some 7 } else if p = 2 then caller else Booth.powerOn := by
  revert p
  decide +kernel

theorem busy_slot (p : Position) : busy.slot p = Intercept.powerOn := by
  revert p
  decide +kernel

theorem busy_accounted : busy.Accounted := by
  refine ⟨fun p => ?_, fun _ p => by rw [busy_slot]; rfl, by decide +kernel, by decide +kernel⟩
  rw [busy_booth, busy_slot]
  split
  · constructor <;> simp [card, Booth.powerOn, Intercept.powerOn]
  · split
    · constructor <;> simp [caller, card, Booth.powerOn, Intercept.powerOn]
    · constructor <;> simp [Booth.powerOn, Intercept.powerOn, Intercept.k]

theorem witness_EveryStepKeepsRanges : busy.InRange := by
  refine ⟨⟨by constructor <;> decide +kernel, ?_, ?_, ?_⟩, ⟨fun p => ?_, fun p => ?_, ?_, ?_, ?_, ?_, ?_, ?_⟩⟩
  · simp [busy, State.withContexts, live, State.reset, State.powerOn]
  · simp [busy, State.withContexts, live, State.reset, State.powerOn]
  · simp [busy, State.withContexts, live, State.reset, State.powerOn]
  · rw [busy_booth]
    split
    · constructor <;> simp [card, Booth.powerOn]
    · split
      · constructor <;> simp [caller, card, Booth.powerOn]
      · constructor <;> simp [Booth.powerOn]
  · rw [busy_slot]
    constructor <;> simp [Intercept.powerOn]
  · decide +kernel
  · decide +kernel
  · intro e h
    simp [busy, State.withContexts, live, State.reset, State.powerOn] at h
  · decide +kernel
  · decide +kernel
  · constructor <;>
      simp [busy, State.withContexts, live, State.reset, State.powerOn, State.setBooth, State.setSlot, Scanner.reset, State.loop,
        State.answerLine, Debounce.reset]

/-- The step of a NULL at booth 2 answers a next state from a state that meets every invariant. -/
theorem witness_EveryStepKeepsTheAccount :
    busy.InRange ∧ busy.Accounted ∧ step busy = .next (after (.null 2) { busy with pending := [] }) :=
  ⟨witness_EveryStepKeepsRanges, busy_accounted, rfl⟩

theorem witness_EveryStepKeepsSerialsApart : busy.SerialsApart :=
  ⟨by decide +kernel, fun _ _ _ e h => by simp [busy, State.withContexts, live, State.reset, State.powerOn] at h⟩

theorem witness_EveryStepKeepsModesAndStatesAgreed : busy.ModesAgree := by
  constructor <;> decide +kernel

theorem witness_EveryStepSettlesCredit : busy.InRange ∧ busy.Accounted ∧ busy.CreditSettled := by
  refine ⟨witness_EveryStepKeepsRanges, busy_accounted, ?_, ?_⟩ <;> intro p c <;> simp only [State.credit, busy_booth, busy_slot]
  · split <;> [skip; split] <;> simp [caller, card, Booth.powerOn, credit, Intercept.k, Intercept.powerOn, pairK]
    omega
  · split <;> [skip; split] <;> simp [caller, card, Booth.powerOn]

/-- Both outcomes of the statement: a debit write from NULL, and a PROTECTED WRITE with its complement. -/
theorem witness_ForwardedBalanceWritesAreBounded :
    busy.Accounted ∧ busy.port.downSlots[2] = none ∧ busy.port.downSlots[5] = none ∧
    exec (.null 2) busy = .next (after (.null 2) busy) ∧
    (after (.null 2) busy).port.downSlots[2] = some ((0x24 : Byte) ++ (26 : Word) ++ (0 : Word)) ∧
    exec (.protectedWrite 5 4 100 65435) busy = .next (after (.protectedWrite 5 4 100 65435) busy) ∧
    (after (.protectedWrite 5 4 100 65435) busy).port.downSlots[5] = some ((0x24 : Byte) ++ (100 : Word) ++ (0 : Word)) :=
  ⟨busy_accounted, by decide +kernel, by decide +kernel, rfl, by decide +kernel, rfl, by decide +kernel⟩

theorem witness_TariffStaysSetAndMinuteFollowsHeaders :
    exec .chargeTick (priced live) = .next (after .chargeTick (priced live)) ∧ Instr.chargeTick ≠ .powerOnReset ∧
    (∀ f m g w, Instr.chargeTick ≠ .headerArrival f m g w) ∧ (priced live).tariff[(7 : Band)][(1 : Period)] ≠ none :=
  ⟨rfl, by decide, nofun, by decide +kernel⟩

theorem witness_HighwayBytesDecodeBack :
    (Instr.unknownKind 3 15).wellFormed = true ∧ encodeRequest (.unknownKind 3 15) = some (3, 0xF000000000) ∧
    (Instr.unknownStatus 3 0x0FABCDEF01).wellFormed = true ∧
    encodeReply (.unknownStatus 3 0x0FABCDEF01) = some (3, 0x0FABCDEF01) ∧
    encodeTable (.tariff 7 2 3 40) = some 0x010702030028 ∧
    encodeHeader (.headerArrival 1 1440 3 0x010702030028) = some 0x0105A003010702030028 := by decide

/-! ### Replies -/

/-- A slot in which the row controller's request is recorded. -/
def rowSlotOf (sent : ReaderRequest) (t : Treatment) : Intercept :=
  { Intercept.powerOn with record := some { origin := .row, sent := sent, treatment := t } }

/-- A slot of the row controller with a held own request and a record of one word in flight. -/
def rowFlight (word : WordAddr) : Intercept :=
  flightSlot { origin := .row, word := word, value := 26, prior := if word = 4 then some 30 else none,
               k := if word = 4 then 4 else 0, frames := 15 }

theorem witness_RowControllerIsShownTheRightReply :
    (one 8 caller (rowSlotOf .null (.killed .raise 31))).taking ∧ replyOf (.ready 8 0) = some (8, .ready) ∧
    ((one 8 caller (rowSlotOf .null (.killed .raise 31))).slot 8).record =
      some { origin := .row, sent := .null, treatment := .killed .raise 31 } ∧
    ((one 8 caller (readSlot 0)).slot 8).record =
      some { origin := .own, sent := .read 4, treatment := .inserted true } ∧
    ((one 8 caller writeSlot).slot 8).record =
      some { origin := .own, sent := .write 4 26, treatment := .inserted true } ∧
    replyOf (.accepted 8 4 5) = some (8, .accepted 4) ∧
    ((one 8 caller (flightSlot writeRecord)).slot 8).inFlight = some writeRecord ∧ writeRecord.word = 4 ∧
    writeRecord.origin = .own ∧ replyOf (.written 8 4 26 7) = some (8, .written 4 26) ∧
    encodeReply (.written 8 4 26 7) = some (8, 0x1504001A07) ∧
    ((one 8 caller (rowFlight 4)).slot 8).inFlight.map InFlight.origin = some .row := by
  simp only [State.taking]
  decide +kernel

/-- The state with the tariff entries of band 15 SET. -/
def unknownSet (s : State) : State :=
  { s with tariff := s.tariff.set 15 (Vector.replicate 4 (some { charge := 1, rate := 60 })) }

theorem witness_ReadyAndBusyOnlyShowTheCard :
    (one 8 caller .powerOn).taking ∧ ((one 8 caller .powerOn).booth 8).state ≠ .vacant ∧
    ((one 8 caller .powerOn).slot 8).inFlight = none ∧
    (one 8 .powerOn .powerOn).taking ∧ ((one 8 .powerOn .powerOn).booth 8).firstLoop ≠ some true ∧
    ((one 8 .powerOn .powerOn).booth 8).present ≠ .yes ∧
    (one 8 waiting .powerOn).taking ∧ ((one 8 waiting .powerOn).booth 8) = waiting ∧ waiting.state = .vacant ∧
    waiting.present ≠ .yes ∧ waiting.mode = .charged ∧ waiting.resumed = .waiting ∧ waiting.firstLoop = some true ∧
    waiting.firstAnswer = some true ∧ ((one 8 waiting .powerOn).slot 8).inFlight = none ∧
    (one 8 waiting .powerOn).tariff[(15 : Band)][(one 8 waiting .powerOn).currentPeriod] = none ∧
    (unknownSet (one 8 waiting .powerOn)).tariff[(15 : Band)][(one 8 waiting .powerOn).currentPeriod] =
      some { charge := 1, rate := 60 } := by
  simp only [State.taking]
  decide +kernel

/-- Any reply but ABSENT at a booth with no card, and at one that waits for its card state with a call found up. -/
theorem witness_anyReplyInsertsTheCard :
    let s := one 8 .powerOn .powerOn
    s.taking ∧ replyOf (.unknownStatus 8 0xFFFFFFFFFF) = some (8, .unknown) ∧
    replyOf (.data 8 0 3 0) = some (8, .data 0 3) ∧ Reply.unknown ≠ .absent ∧ (s.booth 8).state ≠ .fault ∧
    (s.booth 8).present ≠ .yes ∧ (s.booth 8).firstLoop ≠ some true ∧ s.rowSlot 8 ∧ (s.slot 8).inFlight = none ∧
    (one 8 waiting .powerOn).taking ∧ waiting.state ≠ .fault ∧ waiting.present ≠ .yes := by
  simp only [State.taking, State.rowSlot]
  decide +kernel

/-- With a record held, in a slot of either origin, and in FAULT with a record of word 9. -/
theorem witness_repliesWithARecordHeld :
    let s := one 8 { caller with owed := 65531 } (rowFlight 4)
    let f := one 8 { inserted with state := .fault } (rowFlight 9)
    s.taking ∧ (s.booth 8).present = .yes ∧ replyOf (.written 8 6 3 0) = some (8, .written 6 3) ∧
    (6 : WordAddr) ≠ 4 ∧ replyOf (.data 8 0 3 0) = some (8, .data 0 3) ∧
    replyOf (.accepted 8 4 0) = some (8, .accepted 4) ∧ replyOf (.busy 8 0) = some (8, .busy) ∧
    f.taking ∧ (f.booth 8).state = .fault ∧ (f.slot 8).inFlight.map InFlight.word = some 9 ∧ f.rowSlot 8 ∧
    replyOf (.written 8 9 0 0) = some (8, .written 9 0) ∧ replyOf (.error 8 0) = some (8, .error) := by
  simp only [State.taking, State.rowSlot]
  decide +kernel

theorem witness_ReplyOfAnIdleReaderUndoesTheWrite :
    let s := one 8 { caller with owed := 65531 } (rowFlight 4)
    let r := one 8 caller (rowFlight 9)
    s.cardHere 8 ∧ s.rowSlot 8 ∧ ((s.slot 8).inFlight.map InFlight.word = some 4) ∧
    (s.slot 8).inFlight.bind InFlight.prior = some 30 ∧ (s.booth 8).known = some 30 ∧
    (s.slot 8).inFlight.map InFlight.k = some 4 ∧ (s.slot 8).inFlight.map InFlight.value = some 26 ∧
    (s.booth 8).owed + 4 ≤ 65535 ∧
    r.cardHere 8 ∧ r.rowSlot 8 ∧ ((r.slot 8).inFlight.map InFlight.word = some 9) := by
  simp only [State.cardHere, State.taking, State.rowSlot]
  decide +kernel

theorem witness_AcceptedMovesCoveredUnitsOutOfW :
    let s := one 8 caller writeSlot
    let r := one 8 caller (rowSlotOf (.write 9 0) .passed)
    let n := one 8 { caller with state := .fault } .powerOn
    s.taking ∧ (s.booth 8).present = .yes ∧ (s.slot 8).inFlight = none ∧
    (s.slot 8).record = some { origin := .own, sent := .write 4 26, treatment := .inserted true } ∧
    r.taking ∧ (r.booth 8).present = .yes ∧ (r.slot 8).inFlight = none ∧
    (r.slot 8).record = some { origin := .row, sent := .write 9 0, treatment := .passed } ∧
    n.taking ∧ (n.booth 8).state = .fault ∧ (n.slot 8).inFlight = none ∧ (n.slot 8).record = none := by
  simp only [State.taking]
  decide +kernel

theorem witness_WrittenSettlesTheRecord :
    let s := one 8 { caller with owed := 65531 } (rowFlight 4)
    let r := one 8 caller (rowFlight 9)
    s.cardHere 8 ∧ (s.slot 8).inFlight.map InFlight.word = some 4 ∧ (s.booth 8).pendingRes = none ∧
    (s.slot 8).inFlight.map InFlight.k = some 4 ∧ (s.slot 8).inFlight.map InFlight.value = some 26 ∧
    (s.booth 8).owed + min 4 ((30 : Word).toNat - 26) = 65535 ∧
    r.cardHere 8 ∧ (r.slot 8).inFlight.map InFlight.word = some 9 := by
  simp only [State.cardHere, State.taking]
  decide +kernel

theorem witness_BalanceLearnedSettlesThePendingResolution :
    let s := one 17 { resolver with owed := 65529 } (rowSlotOf (.read 4) .passed)
    let r := one 17 card (rowSlotOf (.read 4) .passed)
    let o := one 17 { card with known := none } (readSlot 0)
    s.cardHere 17 ∧ (s.slot 17).inFlight = none ∧ (s.booth 17).known ≠ some (120 : Word).toNat ∧
    (s.booth 17).pendingRes = some { prior := 120, new := 114, k := 6 } ∧
    (s.booth 17).owed + min 6 ((120 : Word).toNat - 114) = 65535 ∧
    r.cardHere 17 ∧ (r.slot 17).inFlight = none ∧ (r.booth 17).known = some (40 : Word).toNat ∧
    o.cardHere 17 ∧ (o.slot 17).inFlight = none ∧ (o.booth 17).known ≠ some (40 : Word).toNat ∧
    (o.slot 17).record.map SlotRecord.origin = some .own ∧ (o.slot 17).held.map Held.request = some (.read 4) := by
  simp only [State.cardHere, State.taking]
  decide +kernel

theorem witness_DataSetsBandAndSerialHalf :
    let s := one 14 card .powerOn
    let r := one 14 inserted { readSlot 0 with held := some { request := .read 0, tries := 0 } }
    s.cardHere 14 ∧ (s.slot 14).inFlight = none ∧ (s.booth 14).serialHigh = some (3 : Word).toNat ∧
    (s.booth 14).serialLow = some (4120 : Word).toNat ∧
    r.cardHere 14 ∧ (r.slot 14).inFlight = none ∧ (r.booth 14).serialHigh = none ∧ (r.booth 14).serialLow = none ∧
    (r.slot 14).record.map SlotRecord.origin = some .own ∧ (r.slot 14).held.map Held.request = some (.read 0) := by
  simp only [State.cardHere, State.taking]
  decide +kernel

/-- An entry for the card of `card`, with the greatest units a booth that owes nothing can take. -/
def entry : ArrearsEntry := { serial := 200728, owed := 65535, pair := some ⟨120, 114, 6⟩, age := 3, origin := 4 }

theorem witness_IdentificationCollectsTheEntry :
    let s := one 14 { inserted with serialHigh := some 3, expected := some 200728 } .powerOn
    let r := { s with arrears := [entry], reports := List.replicate 31 (.ofRow .highwayLost 0 0) }
    let h := one 14 { inserted with serialLow := some 4120 } .powerOn
    let x := one 14 { caller with serialLow := none, expected := some 200729 } .powerOn
    s.cardHere 14 ∧ (s.slot 14).inFlight = none ∧ (s.booth 14).serialHigh = some 3 ∧ (s.booth 14).serialLow = none ∧
    (s.booth 14).expected = some (3 * 65536 + (4120 : Word).toNat) ∧ (∀ e ∈ s.arrears, e.serial ≠ 200728) ∧
    r.cardHere 14 ∧ r.arrears.find? (fun x => x.serial = 200728) = some entry ∧
    (r.booth 14).owed + entry.owed = 65535 ∧ (r.booth 14).known = none ∧ (r.booth 14).pendingRes = none ∧
    r.reports.length = 31 ∧
    h.cardHere 14 ∧ (h.slot 14).inFlight = none ∧ (h.booth 14).serialHigh = none ∧ (h.booth 14).serialLow = some 4120 ∧
    (h.booth 14).expected = none ∧ (∀ e ∈ h.arrears, e.serial ≠ (3 : Word).toNat * 65536 + 4120) ∧
    x.cardHere 14 ∧ (x.slot 14).inFlight = none ∧ (x.booth 14).serialHigh = some 3 ∧ (x.booth 14).serialLow = none ∧
    (x.booth 14).expected = some 200729 ∧ 200729 ≠ 3 * 65536 + (4120 : Word).toNat ∧ (x.booth 14).foundUp = false ∧
    (x.booth 14).state = .call ∧ (∀ q, q ≠ 14 → (x.booth q).holds 200729 = false) ∧ x.arrears = [] := by
  simp only [State.cardHere, State.taking]
  decide +kernel

/-- An entry whose pair is settled at once with 3 extra units: one that fills W, one that saturates it by the extra, one
that saturates it alone; and a booth that holds a pending resolution. -/
theorem witness_collectionsOfEveryKind :
    let s := fun (b : Booth) (owed : Nat) =>
      { one 14 b .powerOn with
        arrears := [{ entry with owed := owed }], reports := List.replicate 28 (.ofRow .highwayLost 0 0) }
    let known := { caller with serialLow := none, expected := none, known := some 117 }
    let holding := { known with known := none, pendingRes := some ⟨6, 5, 1⟩ }
    (s known 65528).cardHere 14 ∧ ((s known 65528).slot 14).inFlight = none ∧
    ((s known 65528).booth 14).serialHigh = some 3 ∧ ((s known 65528).booth 14).serialLow = none ∧
    (s known 65528).arrears.find? (fun x => x.serial = 3 * 65536 + (4120 : Word).toNat) =
      some { entry with owed := 65528 } ∧
    ((s known 65528).booth 14).state = .call ∧ ((s known 65528).booth 14).pendingRes = none ∧
    4 + 65528 + min 6 (117 - 114) = 65535 ∧ 65535 < 4 + 65529 + min 6 (117 - 114) ∧ 4 + 65529 ≤ 65535 ∧
    ((s known 65529).booth 14).known = some 117 ∧ 65535 < ((s known 65535).booth 14).owed + 65535 ∧
    (s known 65535).reports.length + 4 = 32 ∧
    (s holding 65531).cardHere 14 ∧ ((s holding 65531).booth 14).serialLow = none ∧
    ((s holding 65531).booth 14).pendingRes.isSome ∧ ((s holding 65531).booth 14).owed + 65531 = 65535 := by
  simp only [State.cardHere, State.taking]
  decide +kernel

/-- A booth in CARD whose pending mode is FREE, with a pending resolution for the expected serial; the list holds the new
card's entry. -/
theorem witness_unexpectedCardInCard :
    let s := { one 14 { inserted with serialHigh := some 3, expected := some 200729, pendingMode := some .free, owed := 7,
                                      pendingRes := some ⟨6, 5, 1⟩ } .powerOn with
               arrears := [entry], reports := List.replicate 30 (.ofRow .highwayLost 0 0) }
    let list := (openEntry s.arrears 14 200729 7 (some ⟨6, 5, 1⟩)).entries
    s.cardHere 14 ∧ (s.slot 14).inFlight = none ∧ (s.booth 14).serialHigh = some 3 ∧ (s.booth 14).serialLow = none ∧
    (s.booth 14).state = .card ∧ (s.booth 14).foundUp = false ∧ (s.booth 14).expected = some 200729 ∧
    (∀ q, q ≠ 14 → (s.booth q).holds 200729 = false) ∧ outPair (s.slot 14) (s.booth 14) = some ⟨6, 5, 1⟩ ∧
    list.find? (fun x => x.serial = 3 * 65536 + (4120 : Word).toNat) = some entry ∧ entry.owed ≤ 65535 ∧
    (∀ x ∈ s.arrears, x.serial ≠ 200729) ∧ s.arrears.length < 32 ∧ s.reports.length + 2 = 32 := by
  simp only [State.cardHere, State.taking]
  decide +kernel

theorem witness_ContradictingHalfIsACardChange :
    let s := one 14 caller .powerOn
    s.cardHere 14 ∧ (s.slot 14).inFlight = none ∧ (s.booth 14).serialHigh = some 3 ∧ 3 ≠ (4 : Word).toNat ∧
    (s.booth 14).serialLow = some 4120 ∧ 4120 ≠ (4121 : Word).toNat ∧ (s.booth 14).foundUp = false ∧
    (s.booth 14).state = .call ∧ (one 14 card .powerOn).cardHere 14 ∧ ((one 14 card .powerOn).booth 14).state = .card ∧
    (one 14 { caller with state := .clearing } .powerOn).cardHere 14 := by
  simp only [State.cardHere, State.taking]
  decide +kernel

/-- The debt of a card change and of a FAULT entry: under a serial that no other booth holds, and under none. -/
theorem witness_debtsUnderTheSerial :
    let s := one 8 caller (rowFlight 9)
    let d := { one 8 { inserted with state := .clearing, serialLow := some 7, owed := 65535, pendingRes := some ⟨6, 5, 1⟩ }
      (rowFlight 9) with reports := List.replicate 28 (.ofRow .highwayLost 0 0) }
    s.cardHere 8 ∧ (s.booth 8).serialHigh = some 3 ∧ (s.booth 8).serialLow = some 4120 ∧ 3 * 65536 + 4120 = 200728 ∧
    0 < (s.booth 8).owed ∧ (∀ q, q ≠ 8 → (s.booth q).holds 200728 = false) ∧ (∀ x ∈ s.arrears, x.serial ≠ 200728) ∧
    s.arrears.length < 32 ∧ s.reports.length + 3 ≤ 32 ∧
    d.cardHere 8 ∧ (d.booth 8).serialHigh = none ∧ (d.booth 8).serialLow = some 7 ∧ (d.booth 8).expected = none ∧
    (d.booth 8).callUp = false ∧ (d.booth 8).owed + pairK (outPair (d.slot 8) (d.booth 8)) = 65536 ∧
    d.reports.length + 4 = 32 ∧ (d.booth 8).foundUp = false ∧ (d.booth 8).state ≠ .vacant := by
  simp only [State.cardHere, State.taking]
  decide +kernel

theorem witness_ThirdErrorOnAHeldRequestIsAFault :
    let r := one 14 card { rowSlotOf .null .passed with held := some { request := .read 4, tries := 2 } }
    (one 14 card (readSlot 1)).cardHere 14 ∧ ¬ (one 14 card (readSlot 1)).rowSlot 14 ∧
    ((one 14 card (readSlot 1)).slot 14).held = some { request := .read 4, tries := 1 } ∧
    (one 14 card (readSlot 2)).cardHere 14 ∧ ¬ (one 14 card (readSlot 2)).rowSlot 14 ∧
    ((one 14 card (readSlot 2)).slot 14).held = some { request := .read 4, tries := 2 } ∧
    r.cardHere 14 ∧ r.rowSlot 14 ∧ (r.slot 14).held = some { request := .read 4, tries := 2 } ∧
    (r.slot 14).inFlight = none := by
  simp only [State.cardHere, State.taking, State.rowSlot]
  decide +kernel

theorem witness_FaultEntryForgetsTheCard :
    let record := fun n => { writeRecord with k := 0, prior := none, frames := n }
    let s := one 8 { caller with owed := 0 } (flightSlot (record 15))
    let full := { s with reports := List.replicate 30 (.ofRow .highwayLost 0 0) }
    full.running ∧ (full.slot 8).inFlight = some (record 15) ∧ (full.booth 8).state ≠ .fault ∧ (full.booth 8).owed = 0 ∧
    outPair (full.slot 8) (full.booth 8) = none ∧ full.reports.length + 2 = 32 ∧
    ((one 8 { caller with state := .fault } (flightSlot (record 15))).slot 8).inFlight = some (record 15) ∧
    ((one 8 { caller with state := .fault } (flightSlot (record 15))).booth 8).state = .fault ∧
    ((one 8 caller (flightSlot (record 14))).slot 8).inFlight = some (record 14) := by
  simp only [State.running]
  decide +kernel

theorem witness_AbsentRemovesTheCard :
    (one 9 caller (rowFlight 4)).cardHere 9 ∧ (one 9 { card with pendingMode := some .free } .powerOn).cardHere 9 ∧
    (one 9 { caller with state := .clearing } .powerOn).cardHere 9 ∧
    ((one 9 card .powerOn).booth 9).owed = 0 ∧ outPair ((one 9 card .powerOn).slot 9) ((one 9 card .powerOn).booth 9) = none := by
  simp only [State.cardHere, State.taking]
  decide +kernel

/-- Booth 20 removes a card with 4 units owed while the list holds these entries and the queue 29 records. -/
def removing (l : List ArrearsEntry) : State :=
  { one 20 { card with owed := 4 } .powerOn with
    arrears := l, reports := List.replicate 29 (.ofRow .highwayLost 0 0) }

/-- A full list of other cards. -/
def fullList : List ArrearsEntry :=
  (List.range 32).map fun n => { serial := n, owed := 65535, pair := none, age := 0, origin := 2 }

theorem witness_RemovalOpensArrearsInTheList :
    let merge := removing [{ entry with owed := 65531 }]
    let full := removing fullList
    merge.cardHere 20 ∧ (merge.booth 20).debtSerial = some 200728 ∧ 0 < (merge.booth 20).owed ∧
    (∀ q, q ≠ 20 → (merge.booth q).holds 200728 = false) ∧ merge.reports.length + 3 = 32 ∧
    merge.arrears.find? (fun x => x.serial = 200728) = some { entry with owed := 65531 } ∧
    65531 + (merge.booth 20).owed = 65535 ∧ outPair (merge.slot 20) (merge.booth 20) = none ∧
    (removing fullList.tail).arrears.length = 31 ∧ (∀ e ∈ fullList, e.serial ≠ 200728) ∧
    full.cardHere 20 ∧ full.arrears = fullList.headD entry :: fullList.tail ∧ full.arrears.length = 32 ∧
    (fullList.headD entry).units = 65535 := by
  simp only [State.cardHere, State.taking]
  decide +kernel

/-- A merge one unit above 65,535 with a pair on both sides, and an eviction of 65,536 units. -/
theorem witness_openingsAboveTheRange :
    let s := { (removing [{ entry with owed := 65532 }]).withContexts 20
      { card with known := none, owed := 4, pendingRes := some ⟨6, 5, 1⟩ } .powerOn with reports := [] }
    let big := { fullList.headD entry with pair := some ⟨6, 5, 1⟩ }
    s.cardHere 20 ∧ (s.booth 20).debtSerial = some 200728 ∧ 65532 + (s.booth 20).owed = 65536 ∧
    outPair (s.slot 20) (s.booth 20) = some ⟨6, 5, 1⟩ ∧ entry.pair.isSome ∧
    s.arrears.find? (fun x => x.serial = 200728) = some { entry with owed := 65532 } ∧
    (∀ q, q ≠ 20 → (s.booth q).holds 200728 = false) ∧
    big.units = 65536 ∧ (removing (big :: fullList.tail)).arrears.length = 32 ∧
    (∀ x ∈ big :: fullList.tail, x.serial ≠ 200728) := by
  simp only [State.cardHere, State.taking]
  decide +kernel

theorem witness_RemovalTransfersToTheBoothThatHoldsTheSerial :
    let s := { (one 4 { caller with owed := 5 } (rowFlight 4)).withContexts 2
      { caller with known := none, owed := 65530 } .powerOn with
      reports := List.replicate 30 (.ofRow .highwayLost 0 0) }
    s.cardHere 4 ∧ (s.booth 4).debtSerial = some 200728 ∧ 0 < (s.booth 4).owed ∧ (2 : Position) ≠ 4 ∧
    (s.booth 2).holds 200728 = true ∧ (∀ q, q ≠ 4 → q < 2 → (s.booth q).holds 200728 = false) ∧
    s.reports.length + 2 = 32 ∧ (s.booth 2).owed + (s.booth 4).owed = 65535 ∧ (s.booth 2).known = none ∧
    (outPair (s.slot 4) (s.booth 4)).isSome ∧ (s.booth 2).pendingRes = none := by
  simp only [State.cardHere, State.taking]
  decide +kernel

/-- To a booth whose balance is known, W at its limit with the extra, and to one that holds a pending resolution. -/
theorem witness_transfersToAKnownCard :
    let pair : Pair := ⟨30, 26, 4⟩
    let s := fun g : Booth => (one 4 { caller with owed := 5 } (rowFlight 4)).withContexts 2 g .powerOn
    let known := { caller with known := some 29, owed := 65527 }
    let holding := { caller with known := none, owed := 65530, pendingRes := some ⟨6, 5, 1⟩ }
    (s known).cardHere 4 ∧ outPair ((s known).slot 4) ((s known).booth 4) = some pair ∧
    ((s known).booth 2).holds 200728 = true ∧ ((s known).booth 2).known = some 29 ∧
    ((s known).booth 2).pendingRes = none ∧ known.owed + 5 + min 4 (29 - 26) = 65535 ∧
    (s holding).cardHere 4 ∧ ((s holding).booth 2).holds 200728 = true ∧ ((s holding).booth 2).pendingRes.isSome ∧
    holding.owed + 5 = 65535 ∧ (s holding).reports.length + 3 ≤ 32 := by
  simp only [State.cardHere, State.taking]
  decide +kernel

theorem witness_RemovalWithoutSerialDropsTheUnits :
    let s := { one 9 { inserted with state := .clearing, owed := 65535 } .powerOn with
      reports := List.replicate 30 (.ofRow .highwayLost 0 0) }
    let r := { one 9 { inserted with state := .clearing, owed := 65535, pendingRes := some ⟨6, 5, 1⟩ } .powerOn with
      reports := List.replicate 30 (.ofRow .highwayLost 0 0) }
    s.cardHere 9 ∧ (s.booth 9).debtSerial = none ∧ s.reports.length + 2 = 32 ∧
    (s.booth 9).owed + pairK (outPair (s.slot 9) (s.booth 9)) = 65535 ∧
    r.cardHere 9 ∧ (r.booth 9).debtSerial = none ∧ r.reports.length + 2 = 32 ∧
    (r.booth 9).owed + pairK (outPair (r.slot 9) (r.booth 9)) = 65536 := by
  simp only [State.cardHere, State.taking]
  decide +kernel

theorem witness_AbsentEndsFault :
    let broken := fun (owed : Nat) (last : Option Nat) => one 9 { inserted with
      state := .fault, callUp := true, owed := owed, lastSerial := last } .powerOn
    let s := { broken 0 none with reports := List.replicate 31 (.ofRow .highwayLost 0 0) }
    let n := { broken 5 (some 200728) with reports := List.replicate 30 (.ofRow .highwayLost 0 0) }
    let d := { broken 65535 none with reports := List.replicate 30 (.ofRow .highwayLost 0 0) }
    s.taking ∧ (s.booth 9).state = .fault ∧ (s.booth 9).owed = 0 ∧ s.reports.length = 31 ∧
    n.taking ∧ (n.booth 9).state = .fault ∧ 0 < (n.booth 9).owed ∧ (n.booth 9).lastSerial = some 200728 ∧
    (∀ q, q ≠ 9 → (n.booth q).holds 200728 = false) ∧ (∀ x ∈ n.arrears, x.serial ≠ 200728) ∧ n.arrears.length < 32 ∧
    n.reports.length + 2 = 32 ∧
    d.taking ∧ (d.booth 9).state = .fault ∧ (d.booth 9).owed = 65535 ∧ (d.booth 9).lastSerial = none ∧
    d.reports.length + 2 = 32 := by
  simp only [State.taking]
  decide +kernel

theorem witness_AbsentWithoutCard :
    (one 9 { Booth.powerOn with present := .no } .powerOn).taking ∧
    ((one 9 { Booth.powerOn with present := .no } .powerOn).booth 9).state ≠ .fault ∧
    ((one 9 .powerOn .powerOn).booth 9).present = .unknown ∧ ((one 9 .powerOn .powerOn).booth 9).foundUp = false ∧
    (one 9 waiting .powerOn).taking ∧ ((one 9 waiting .powerOn).booth 9).foundUp = true ∧
    ((one 9 waiting .powerOn).booth 9).present = .unknown ∧ ((one 9 waiting .powerOn).booth 9).serialHigh = none ∧
    (one 9 waiting .powerOn).tariff[(15 : Band)][(one 9 waiting .powerOn).currentPeriod] = none ∧
    (unknownSet (one 9 waiting .powerOn)).tariff[(15 : Band)][(unknownSet (one 9 waiting .powerOn)).currentPeriod] =
      some { charge := 1, rate := 60 } := by
  simp only [State.taking]
  decide +kernel

/-! ### Frames, the highway and tables -/

theorem witness_FrameStartBeginsAFrame :
    State.reset.running ∧ State.reset.port.inProgress = false ∧ State.powerOn.resetAsserted = true := by
  simp only [State.running]
  decide +kernel

/-- Slot 20 is emitted whole at byte time 117 and not at 116. -/
theorem witness_FrameStartCutsTheFrameInProgress :
    (one 20 caller cutSlot).taking ∧ 17 + 5 * (20 : Position).val ≤ max 117 (one 20 caller cutSlot).port.byteTime ∧
    ¬ 17 + 5 * (20 : Position).val ≤ max 116 (one 20 caller cutSlot).port.byteTime ∧
    ((one 20 caller cutSlot).slot 20).record = some { origin := .own, sent := .write 4 57, treatment := .inserted true } ∧
    ((one 20 caller (readSlot 0)).slot 20).record =
      some { origin := .own, sent := .read 4, treatment := .inserted true } ∧
    ((one 20 caller cutSlot).slot 19).record = none := by
  simp only [State.taking]
  decide +kernel

theorem witness_HeaderFieldsAreTaken : live.taking := ⟨rfl, rfl⟩

/-- A frame that is complete in highway state `h` with a write at its 15th frame next. -/
def ending (h : HighwayState) : State :=
  { one 8 caller (flightSlot { writeRecord with frames := 14 }) with
    sup := { highway := h, frameTimer := some 24575, lossTimer := none, lossDuration := 20 },
    reports := List.replicate 7 (.ofRow .highwayLost 0 0) }

/-- The same with the frame timer expired in the frame. -/
def late (h : HighwayState) : State :=
  { ending h with sup := { (ending h).sup with frameTimer := some 24576 },
                  reports := List.replicate 6 (.ofRow .highwayLost 0 0) }

/-- In every one of the four highway states. -/
theorem witness_FrameEndCountsFramesAndRestores (h : HighwayState) :
    (ending h).taking ∧ (∀ p x, ((ending h).slot p).inFlight = some x → x.frames + 1 < 16) ∧
    (ending h).sup.highway = h ∧ (ending h).sup.frameTimer ≠ some 24576 ∧ (ending h).reports.length + 25 = 32 ∧
    (late h).taking ∧ (late h).sup.highway = h ∧ (late h).sup.frameTimer = some 24576 ∧
    (late h).reports.length + 26 = 32 ∧ (∀ p, (late h).slot p = (ending h).slot p) := by
  refine ⟨⟨rfl, rfl⟩, fun p x => ?_, rfl, by simp [ending], rfl, ⟨rfl, rfl⟩, rfl, rfl, rfl, fun _ => rfl⟩
  have : (ending h).slot p = if p = 8 then flightSlot { writeRecord with frames := 14 } else .powerOn := by
    revert p
    cases h <;> decide +kernel
  rw [this]
  split
  · simp only [flightSlot, Option.some.injEq]
    rintro rfl
    decide
  · simp [Intercept.powerOn]

theorem witness_SixteenFramesMakeAReaderFault :
    let s := one 8 caller (flightSlot { writeRecord with frames := 15 })
    s.taking ∧ (s.slot 8).inFlight = some { writeRecord with frames := 15 } := by
  simp only [State.taking]
  decide +kernel

theorem witness_LockExpiryAndTrailer :
    let begun := after (.trailerRecord 8) (trailing [] 0)
    (trailing [] 0).running ∧ (trailing [] 0).port.trailerDue = true ∧ (trailing [] 0).port.trailerRecord = none ∧
    begun.running ∧ begun.port.trailerDue = true ∧ begun.port.trailerRecord = some none ∧ begun.port.upTrailer.length = 8 ∧
    live.port.trailerDue = false ∧
    ((one 8 caller { Intercept.powerOn with lock := 1 }).slot 8).lock = 1 ∧
    ((one 8 caller { Intercept.powerOn with lock := 2 }).slot 8).lock ≠ 1 := by
  simp only [State.running]
  decide +kernel

theorem witness_FrameTimeoutLosesTheHighway :
    let s := { one 8 caller (rowFlight 4) with
      port := Port.reset, reports := List.replicate 31 (.ofRow .highwayLost 0 0) }
    let f := { one 20 caller cutSlot with reports := List.replicate 31 (.ofRow .highwayLost 0 0) }
    s.running ∧ s.sup.frameTimer ≠ none ∧ s.sup.highway = .running ∧ s.port.inProgress = false ∧ s.reports.length = 31 ∧
    f.running ∧ f.sup.frameTimer ≠ none ∧ f.sup.highway = .running ∧ f.port.inProgress = true ∧ f.reports.length = 31 ∧
    (f.slot 20).record.map SlotRecord.sent = some (.write 4 57) ∧ 17 + 5 * (20 : Position).val ≤ max 117 f.port.byteTime ∧
    ¬ 17 + 5 * (20 : Position).val ≤ max 116 f.port.byteTime ∧
    State.reset.sup.frameTimer = none ∧ (lost live).sup.frameTimer ≠ none ∧ (lost live).sup.highway ≠ .running := by
  simp only [State.running]
  decide +kernel

theorem witness_LongLossClearsCallsDown :
    let s := { lost (one 8 caller .powerOn) with reports := List.replicate 8 (.ofRow .highwayLost 0 0) }
    s.running ∧ s.sup.highway = .lost ∧ s.reports.length + 24 = 32 ∧ live.sup.highway ≠ .lost := by
  simp only [State.running]
  decide +kernel

theorem witness_tableWords :
    State.powerOn.resetAsserted = true ∧ live.running ∧ (15 : Byte).toNat < 16 ∧ 16 ≤ (16 : Byte).toNat ∧
    (3 : Byte).toNat < 4 ∧ 4 ≤ (4 : Byte).toNat ∧ (7 : Byte).toNat < 8 ∧ 8 ≤ (8 : Byte).toNat ∧
    (23 : Byte).toNat = (23 : Position).val ∧ 24 ≤ (24 : Byte).toNat := by
  simp only [State.running]
  decide +kernel

/-- Minute 1,080 selects slot 1, of 360 and 1,080; at 359 no set slot is at or below, and slot 1 is carried over. -/
theorem witness_CurrentPeriodFollowsTheSchedule :
    (priced live).schedule[(1 : Fin 8)] = some { minute := 1080, period := 2 } ∧
    (∀ k : Fin 8, ∀ y ∈ (priced live).schedule[k], y.minute ≤ 1080 → y.minute < 1080 ∨ (y.minute = 1080 ∧ k ≤ 1)) ∧
    (∀ k : Fin 8, ∀ y ∈ (priced live).schedule[k], 359 < y.minute) ∧
    (∀ n : Fin 8, live.schedule[n] = none) ∧ live.minute = none := by decide +kernel

/-! ### Ticks and the line scan -/

theorem witness_TickAccruesAtTheReselectedRate :
    let s := one 3 { booth3 with owed := 65535 } .powerOn
    s.running ∧ (s.booth 3).rate = some 4095 ∧ (s.booth 3).owed ≤ 65535 := by
  simp only [State.running]
  decide +kernel

/-- Booth 3 in CALL, taking 4 new units, with credit 4, with credit 5 and with none defined; in GRACE with credit 4 and 2
ticks left; in CLEARING. A tick at any of them places no report, and so does one at every other booth. -/
theorem witness_ticksOfACall :
    let s := fun (state : BoothState) (known : Option Nat) (grace : Nat) =>
      one 3 { booth3 with state := state, known := known, owed := 65531, grace := grace } .powerOn
    (s .call none 0).running ∧ (s .call none 0).credit 3 = none ∧ (s .call (some 65535) 0).credit 3 = some 4 ∧
    (one 3 { booth3 with owed := 65530, known := some 65535 } .powerOn).credit 3 = some 5 ∧ (s .call none 0).tickUnits 3 = 4 ∧ (900 + 4095) / 1024 = 4 ∧
    ((s .call none 0).booth 3).owed + 4 = 65535 ∧ (s .grace (some 65535) 2).credit 3 = some 4 ∧
    ((s .grace (some 65535) 2).booth 3).grace = 2 ∧ (s .call none 0).tickPlacesNoReport 3 ∧
    (s .grace (some 65535) 2).tickPlacesNoReport 3 ∧ (s .grace none 1).QuietTick 3 ∧
    ((s .clearing none 0).booth 3).state = .clearing := by
  simp only [State.running, State.tickPlacesNoReport]
  refine ⟨?_, ?_, ?_, ?_, ?_, ?_, ?_, ?_, ?_, ?_, ?_, ⟨?_, ?_⟩, ?_⟩ <;> (try simp only [State.tickPlacesNoReport]) <;>
    decide +kernel

theorem witness_TickMovesCountsAndLeavesUnratedBooths :
    let cleared := { caller with state := .clearing, rate := none, timer := some (.assert 1) }
    { threeEntries with tickCount := 599 }.running ∧ (599 + 1) % 600 = 0 ∧
    (threeEntries.arrears.map ArrearsEntry.serial).Nodup ∧ (598 + 1) % 600 ≠ 0 ∧ (live.booth 7).rate = none ∧
    (live.booth 7).state ≠ .grace ∧ (one 7 cleared .powerOn).running ∧ ((one 7 cleared .powerOn).booth 7).rate = none ∧
    ((one 7 cleared .powerOn).booth 7).state = .clearing ∧
    ((one 7 { cleared with state := .grace } .powerOn).booth 7).rate = none := by
  simp only [State.running]
  decide +kernel

theorem witness_SaturationDropsTheExcess :
    let s := { one 3 booth3 .powerOn with reports := List.replicate 30 (.ofRow .highwayLost 0 0) }
    65535 < (s.booth 3).owed + 3 ∧ s.reports.length + 2 = 32 ∧ (s.booth 3).state = .call ∧
    ((one 3 { booth3 with state := .card } .powerOn).booth 3).state ≠ .call := by decide +kernel

/-- A tick that takes W one unit above 65,535, at a booth in CALL and at one in CLEARING. -/
theorem witness_tickSaturates :
    let s := one 3 { booth3 with owed := 65532 } .powerOn
    s.reports.length + 2 ≤ 32 ∧ s.running ∧ (s.booth 3).rate = some 4095 ∧
    s.tariff[(2 : Band)][s.currentPeriod] = none ∧ (s.booth 3).owed ≤ 65535 ∧
    (s.booth 3).owed + ((s.booth 3).fraction + 4095) / 1024 = 65536 ∧ (s.booth 3).timer = none ∧
    (s.booth 3).state = .call ∧ (∀ q, q ≠ 3 → (s.booth q).rate = none ∧ (s.booth q).state ≠ .grace) ∧
    (s.tickCount + 1) % 600 ≠ 0 ∧
    ((one 3 { booth3 with state := .clearing } .powerOn).booth 3).state = .clearing := by
  simp only [State.running]
  decide +kernel

/-- A booth in GRACE whose card is not there, with its countdown at `n`. -/
def graced (n : Nat) : Booth :=
  { caller with state := .grace, present := .no, known := none, grace := n, owed := 65531, fraction := 1023,
                rate := some 4095, callUnits := 65535 }

/-- A booth in GRACE with an identified card that has run dry: known balance 3, W 3. -/
theorem witness_tickOfADryCard :
    let dry := { caller with state := .grace, known := some 3, owed := 3, grace := 2, rate := some 4095, fraction := 1023 }
    let s := one 9 dry .powerOn
    s.running ∧ (s.booth 9).state = .grace ∧ (s.booth 9).present = .yes ∧ (s.booth 9).serial.isSome = true ∧
    s.credit 9 = some 0 ∧ (s.booth 9).timer = none ∧ (s.booth 9).grace = 2 ∧ (s.booth 9).owed + s.tickUnits 9 ≤ 65535 ∧
    (one 9 { dry with grace := 1 } .powerOn).credit 9 = some 0 := by
  simp only [State.running]
  decide +kernel

theorem witness_TickMovesGraceAndClearDown :
    let s := one 9 (graced 2) .powerOn
    s.running ∧ (s.booth 9).state = .grace ∧ (s.booth 9).known = none ∧ (s.booth 9).timer = none ∧
    s.tickUnits 9 = 4 ∧ (s.booth 9).owed + 4 = 65535 ∧ s.reports.length < 32 ∧ 2 ≤ (s.booth 9).grace ∧ ((one 9 (graced 1) .powerOn).booth 9).grace ≤ 1 ∧
    ((one 9 { caller with state := .clearing, timer := some (.assert 1) } .powerOn).booth 9).timer = some (.assert 1) ∧
    ((one 9 { caller with state := .clearing, timer := some (.gap 2) } .powerOn).booth 9).timer = some (.gap 2) ∧
    ((one 9 { inserted with state := .fault, callUp := true, timer := some (.assert 1) } .powerOn).booth 9).state =
      .fault ∧
    ((one 9 { inserted with state := .fault } .powerOn).booth 9).callUp = false := by
  simp only [State.running]
  decide +kernel

theorem witness_CountdownEndsTakenAlone :
    let s := fun t => one 9 { caller with state := .clearing, timer := some t } .powerOn
    live.running ∧ ((one 9 (graced 1) .powerOn).booth 9).grace = 1 ∧ ((one 9 (graced 2) .powerOn).booth 9).grace = 2 ∧
    ((s (.assert 1)).booth 9).timer = some (.assert 1) ∧ ((s (.gap 1)).booth 9).timer = some (.gap 1) ∧
    ((s (.assert 2)).booth 9).timer = some (.assert 2) ∧ ((s (.gap 2)).booth 9).timer = some (.gap 2) ∧
    ((s (.gap 2)).booth 9).state = .clearing := by
  simp only [State.running]
  decide +kernel

theorem witness_AgeStepExpiresOldEntries :
    threeEntries.running ∧ (threeEntries.arrears.map ArrearsEntry.serial).Nodup ∧
    threeEntries.reports.length + 2 ≤ 32 ∧ (∀ e ∈ threeEntries.arrears, e.units ≤ 65535) ∧ 65535 < entry.units ∧
    threeEntries.arrears.find? (fun x => x.serial = (2 : BitVec 32).toNat) =
      some { serial := 2, owed := 6, pair := none, age := 20, origin := 1 } ∧ 21 ≤ 20 + 1 ∧
    (∀ e ∈ threeEntries.arrears, e.serial = (1 : BitVec 32).toNat → e.age + 1 < threeEntries.settings.retention) := by
  simp only [State.running]
  decide +kernel

theorem witness_scan :
    live.running ∧ live.scan.segment = .sense ∧ live.scan.sampled = false ∧
    (sampled live).running ∧ (sampled live).scan.segment = .sense ∧ (sampled live).scan.sampled = true ∧
    { live.scan with segment := Segment.drive 0 }.segment ≠ .sense ∧ 1 ≤ live.settings.debounceCount := by
  simp only [State.running]
  decide +kernel

/-- The queue holds `n` records. -/
def crowded (n : Nat) (s : State) : State := { s with reports := List.replicate n (.ofRow .highwayLost 0 0) }

/-- Line events at booth 13, every other booth of the part as reset leaves it. -/
def listening (n : Nat) (x y : Debounce) (b : Booth) : State := sensing 13 x y (crowded n (priced (one 13 b .powerOn)))

theorem reset_lines (q : Position) :
    State.reset.loop q = Debounce.reset ∧ State.reset.answerLine q = Debounce.reset := by
  revert q
  decide +kernel

/-- No other booth of the column has a run to complete, although each is CHARGED. -/
theorem listening_alone (n : Nat) (x y : Debounce) (b : Booth) (rows : Byte) :
    (listening n x y b).SamplesAlone rows 13 := by
  refine ⟨rfl, rfl, rfl, rfl, fun q hq _ => .inr ?_⟩
  have hv : (13 : Position).val ≠ q.val := fun h => hq (Fin.ext h.symm)
  have hl : (listening n x y b).loop q = Debounce.reset := by
    simp only [listening, sensing, State.loop]
    exact (Vector.getElem_set_ne _ _ hv).trans (reset_lines q).1
  have ha : (listening n x y b).answerLine q = Debounce.reset := by
    simp only [listening, sensing, State.answerLine]
    exact (Vector.getElem_set_ne _ _ hv).trans (reset_lines q).2
  have hd : (listening n x y b).settings.debounceCount = 3 := rfl
  simp [State.loopCompletes, State.answerCompletes, Debounce.completes, hl, ha, hd, Debounce.reset]

/-- A signal of which nothing is known, low or high in its last two samples. -/
def fresh (level : Bool) : Debounce := { level := none, runLevel := level, runCount := 2 }

/-- Every byte is what some inputs of the rows read. -/
theorem witness_rows (rows : Byte) : (RowInputs.mk 0xFF rows).driven &&& (RowInputs.mk 0xFF rows).level = rows := by
  ext i h
  simp
  interval_cases i <;> simp

/-- Rows 2 and 3 are LOOP and ANSWER of booth 13: the sample 08h raises ANSWER, 0Ch finds both high. -/
theorem witness_LineRisesAndFirstValuesStartCalls :
    let s := fun b => listening 31 high rising b
    let owing := { card with band := some 7, owed := 65532 }
    (s owing).SamplesAlone 0x0C 13 ∧ owing.mode = .charged ∧ (s owing).reports.length = 31 ∧ ((s owing).booth 13) = owing ∧
    ¬ (s owing).loopCompletes 0x0C 13 ∧ ((s owing).answerLine 13).level = some false ∧ (s owing).answerCompletes 0x0C 13 ∧
    ((s owing).loop 13).level = some true ∧ owing.state = .card ∧
    (s owing).tariff[(7 : Band)][(s owing).currentPeriod] = some { charge := 2, rate := 40 } ∧ owing.owed + 3 = 65535 ∧
    (s card).tariff[(2 : Band)][(s card).currentPeriod] = none ∧
    ((s { Booth.powerOn with present := .no }).booth 13).state = .vacant ∧
    ((s { inserted with state := .fault }).booth 13).state = .fault ∧ ((s caller).booth 13).state = .call ∧
    ((listening 31 quiet rising card).loop 13).level ≠ some true ∧ (listening 31 quiet rising card).answerCompletes 0x08 13 ∧
    ¬ (listening 31 quiet rising card).loopCompletes 0x08 13 := by
  refine ⟨listening_alone .., ?_⟩
  simp only [State.loopCompletes, State.answerCompletes, Debounce.completes]
  decide +kernel

/-- LOOP and ANSWER rise at one sample; LOOP rises alone; a first value of LOOP while resumed is NO; and the answer units
of a call start saturate. -/
theorem witness_risesTogether :
    let both := listening 30 rising rising { card with band := some 7 }
    let full := { card with band := some 7, owed := 65533 }
    both.SamplesAlone 0x0C 13 ∧ (both.loop 13).level = some false ∧ both.loopCompletes 0x0C 13 ∧
    (both.answerLine 13).level = some false ∧ both.answerCompletes 0x0C 13 ∧
    (0x0C : Byte).getLsbD (2 * ((13 : Position).val % 4)) = true ∧
    (listening 30 rising quiet card).loopCompletes 0x04 13 ∧ ¬ (listening 30 rising quiet card).answerCompletes 0x04 13 ∧
    ((listening 30 (fresh true) quiet card).loop 13).level = none ∧
    (listening 30 (fresh true) quiet card).loopCompletes 0x04 13 ∧ card.resumed = .no ∧
    full.mode = .charged ∧ full.state = .card ∧ full.owed + 3 = 65536 ∧
    ¬ (listening 30 high rising full).loopCompletes 0x0C 13 ∧ (listening 30 high rising full).answerCompletes 0x0C 13 ∧
    (listening 30 high rising full).tariff[(7 : Band)][(listening 30 high rising full).currentPeriod] =
      some { charge := 2, rate := 40 } := by
  refine ⟨listening_alone .., ?_⟩
  simp only [State.loopCompletes, State.answerCompletes, Debounce.completes]
  decide +kernel

/-- First values: of both signals at once, and of ANSWER alone after LOOP's. -/
theorem witness_firstValues :
    let s := fun b => listening 31 (fresh true) (fresh true) b
    let second := listening 31 high (fresh true) { Booth.powerOn with firstLoop := some true }
    (s .powerOn).SamplesAlone 0x0C 13 ∧ second.SamplesAlone 0x0C 13 ∧ Booth.powerOn.mode = .charged ∧
    Booth.powerOn.resumed = .waiting ∧ ((s .powerOn).loop 13).level = none ∧ (s .powerOn).loopCompletes 0x0C 13 ∧
    ((s .powerOn).answerLine 13).level = none ∧ (s .powerOn).answerCompletes 0x0C 13 ∧
    Booth.powerOn.firstLoop = none ∧ Booth.powerOn.firstAnswer = none ∧ Booth.powerOn.present = .unknown ∧
    (second.answerLine 13).level = none ∧ second.answerCompletes 0x0C 13 ∧ ¬ second.loopCompletes 0x0C 13 ∧
    (second.booth 13).firstLoop = some true ∧
    ((s { Booth.powerOn with state := .fault, present := .yes }).booth 13).state = .fault ∧
    ((s { card with resumed := .waiting }).booth 13).present = .yes ∧
    ((s { Booth.powerOn with present := .no }).booth 13).present = .no ∧
    (s .powerOn).tariff[(15 : Band)][(s .powerOn).currentPeriod] = none ∧
    (unknownSet (s .powerOn)).tariff[(15 : Band)][(s .powerOn).currentPeriod] = some { charge := 1, rate := 60 } ∧
    (listening 31 (fresh false) (fresh true) .powerOn).loopCompletes 0x08 13 ∧
    (listening 31 (fresh false) (fresh true) .powerOn).answerCompletes 0x08 13 := by
  refine ⟨listening_alone .., listening_alone .., ?_⟩
  simp only [State.loopCompletes, State.answerCompletes, Debounce.completes]
  decide +kernel

theorem witness_LoopFallEndsTheCall :
    let s := fun b => listening 30 falling high b
    let gone := fun (owed : Nat) (last : Option Nat) => { graced 1 with owed := owed, lastSerial := last }
    let broken := fun (owed : Nat) (last : Option Nat) =>
      { inserted with state := .fault, callUp := true, owed := owed, lastSerial := last }
    (s caller).SamplesAlone 0x08 13 ∧ caller.mode = .charged ∧ (s caller).reports.length + 2 = 32 ∧
    ((s caller).loop 13).level = some true ∧ (s caller).loopCompletes 0x08 13 ∧ ¬ (s caller).answerCompletes 0x08 13 ∧
    ((listening 30 high falling caller).answerLine 13).level = some true ∧
    (listening 30 high falling caller).answerCompletes 0x04 13 ∧
    ¬ (listening 30 high falling caller).loopCompletes 0x04 13 ∧
    (listening 30 falling falling caller).loopCompletes 0 13 ∧ (listening 30 falling falling caller).answerCompletes 0 13 ∧
    caller.callUp = true ∧ caller.state ≠ .fault ∧ caller.present = .yes ∧
    (gone 0 none).callUp = true ∧ (gone 0 none).present ≠ .yes ∧ (gone 0 none).pendingRes = none ∧
    (∀ q, ((s (gone 4 (some 9))).booth q).holds 9 = false) ∧ (∀ x ∈ (s (gone 4 (some 9))).arrears, x.serial ≠ 9) ∧
    (s (gone 4 (some 9))).arrears.length < 32 ∧ (gone 65535 none).owed + pairK (gone 65535 none).pendingRes = 65535 ∧
    (broken 0 none).state = .fault ∧ (broken 0 none).resumed = .no ∧ (broken 65535 none).owed = 65535 ∧
    (∀ q, ((s (broken 4 (some 9))).booth q).holds 9 = false) ∧
    (listening 30 falling rising caller).loopCompletes 0x08 13 ∧
    (listening 30 falling rising caller).answerCompletes 0x08 13 ∧
    waiting.callUp = false ∧ (card.callUp = false) := by
  refine ⟨listening_alone .., ?_⟩
  simp only [State.loopCompletes, State.answerCompletes, Debounce.completes]
  decide +kernel

end Sys2Proof.Tests
end

/-! Every step keeps arrears entries and present cards apart (R68, R72).

Most operations only let serials go: the list loses entries and no booth gains an identified card. `Sheds` says this,
once for each operation. Two kinds of event do more. An opening adds an entry, but only under a serial that no booth
holds, since a booth that holds it takes the units by direct transfer (R70, R71). An identification gives a booth a
serial, and collects the entry for that serial at once (R80). -/

namespace Sys2Proof.Machine

/-! ## Serials held by booths and by the list -/

/-- A booth with no high half of a serial holds no serial (R1). -/
theorem Booth.holds_of_noHigh {b : Booth} (h : b.serialHigh = none) (n : Nat) : b.holds n = false := by
  simp [Booth.holds, Booth.serial, h]

/-- A booth whose card is not present holds no serial (R71). -/
theorem Booth.holds_of_notPresent {b : Booth} (h : b.present ≠ .yes) (n : Nat) : b.holds n = false := by
  simp [Booth.holds, h]

/-- The serial that a booth holds is the one of its two halves. -/
theorem Booth.serial_of_holds {b : Booth} {n : Nat} (h : b.holds n = true) : b.serial = some n := by
  simp only [Booth.holds, decide_eq_true_eq] at h
  exact h.2

/-- No booth holds a serial for which there is no holder (R71). -/
theorem State.holds_of_holder_none {s : State} {n : Nat} (h : s.holder n = none) (p : Position) :
    (s.booth p).holds n = false :=
  Bool.eq_false_iff.mpr (List.find?_eq_none.mp h p (mem_positions p))

theorem Booth.applyMode_holds (b : Booth) (m : Mode) (n : Nat) : (b.applyMode m).holds n = b.holds n := by
  unfold Booth.applyMode
  split <;> rfl

theorem Booth.enterVacant_holds (b : Booth) (n : Nat) : b.enterVacant.holds n = b.holds n := by
  unfold Booth.enterVacant
  split
  · exact Booth.applyMode_holds { b with state := .vacant } _ n
  · rfl

theorem Booth.deliverMode_holds (b : Booth) (m : Mode) (n : Nat) : (b.deliverMode m).holds n = b.holds n := by
  unfold Booth.deliverMode
  split
  · exact Booth.applyMode_holds b m n
  · rfl

/-! ## Operations that only let serials go -/

/-- From `s` to `t` serials only leave: those of the list are some of those before, in their order, and every booth that
holds a serial held it before. -/
structure Sheds (s t : State) : Prop where
  entries : (t.arrears.map ArrearsEntry.serial).Sublist (s.arrears.map ArrearsEntry.serial)
  held : ∀ p n, (t.booth p).holds n = true → (s.booth p).holds n = true

theorem Sheds.refl (s : State) : Sheds s s := ⟨List.Sublist.refl _, fun _ _ h => h⟩

theorem Sheds.trans {s t u : State} (h : Sheds s t) (h' : Sheds t u) : Sheds s u :=
  ⟨h'.entries.trans h.entries, fun p n hn => h.held p n (h'.held p n hn)⟩

/-- An operation that touches neither the list nor a booth lets no serial go and takes none. -/
theorem Sheds.of_same {s t : State} (ha : t.arrears = s.arrears) (hb : t.booths = s.booths) : Sheds s t :=
  ⟨by rw [ha], fun p n => by rw [State.booth, State.booth, hb]; exact id⟩

/-- A serial that no entry carries stays without an entry. -/
theorem Sheds.no_entry {s t : State} (h : Sheds s t) {n : Nat} (hn : ∀ e ∈ s.arrears, e.serial ≠ n) :
    ∀ e ∈ t.arrears, e.serial ≠ n := by
  intro e he
  obtain ⟨x, hx, heq⟩ := List.mem_map.mp (h.entries.subset (List.mem_map_of_mem he))
  exact heq ▸ hn x hx

/-- What only lets serials go keeps serials apart (R72). -/
theorem Sheds.apart {s t : State} (h : Sheds s t) (hs : s.SerialsApart) : t.SerialsApart where
  distinct := hs.distinct.sublist h.entries
  apart p n hn := h.no_entry (hs.apart p n (h.held p n hn))

theorem State.SerialsApart.of_same {s t : State} (hs : s.SerialsApart) (ha : t.arrears = s.arrears)
    (hb : t.booths = s.booths) : t.SerialsApart :=
  (Sheds.of_same ha hb).apart hs

/-- What a condition guards, and nothing where it fails. -/
theorem sheds_ite {s t : State} (h : Sheds s t) {c : Prop} [Decidable c] : Sheds s (if c then t else s) := by
  split
  · exact h
  · exact Sheds.refl s

theorem ite_apart {s t : State} (ht : t.SerialsApart) (hs : s.SerialsApart) {c : Prop} [Decidable c] :
    (if c then t else s).SerialsApart := by
  split
  · exact ht
  · exact hs

theorem sheds_forAll {f : Position → State → State} (h : ∀ p s, Sheds s (f p s)) (s : State) :
    Sheds s (s.forAll f) :=
  forAll_induct (P := Sheds s) (fun p t ht => ht.trans (h p t)) s (Sheds.refl s)

theorem sheds_live {f : State → State} (h : ∀ s, Sheds s (f s)) (s : State) : Sheds s (s.live f) := by
  unfold State.live
  split
  · exact Sheds.refl s
  · exact h s

theorem sheds_inFrame {f : State → State} (h : ∀ s, Sheds s (f s)) (s : State) : Sheds s (s.inFrame f) := by
  refine sheds_live (fun s => ?_) s
  split
  · exact h s
  · exact Sheds.refl s

/-! ### Updates of one context -/

/-- A booth written with the card it had, or with none, gains no serial. -/
theorem sheds_setBooth (s : State) (p : Position) (b : Booth)
    (h : ∀ n, b.holds n = true → (s.booth p).holds n = true) : Sheds s (s.setBooth p b) where
  entries := List.Sublist.refl _
  held q n hn := by
    rw [State.booth_setBooth] at hn
    split at hn
    next hq => exact hq ▸ h n hn
    next => exact hn

theorem sheds_setBooth_holdless (s : State) (p : Position) (b : Booth) (h : ∀ n, b.holds n = false) :
    Sheds s (s.setBooth p b) :=
  sheds_setBooth s p b fun n hn => Bool.noConfusion ((h n).symm.trans hn)

theorem sheds_setBooth_forgotten (s : State) (p : Position) (b : Booth) (h : b.serialHigh = none := by rfl) :
    Sheds s (s.setBooth p b) :=
  sheds_setBooth_holdless s p b (Booth.holds_of_noHigh h)

/-- An update of a booth that leaves its card alone takes no serial. -/
theorem sheds_onBooth (s : State) (p : Position) (f : Booth → Booth)
    (h : ∀ b n, (f b).holds n = b.holds n := by exact fun _ _ => rfl) : Sheds s (s.onBooth p f) :=
  sheds_setBooth s p _ fun n hn => h _ n ▸ hn

theorem sheds_setSlot (s : State) (p : Position) (c : Intercept) : Sheds s (s.setSlot p c) := Sheds.of_same rfl rfl
theorem sheds_onSlot (s : State) (p : Position) (f : Intercept → Intercept) : Sheds s (s.onSlot p f) :=
  sheds_setSlot s p _

/-! ### Reports and the account -/

theorem sheds_place (s : State) (r : Report) : Sheds s (s.place r) := Sheds.of_same (by simp) (by simp)

theorem sheds_placeIf (s : State) (c : Bool) (r : Report) : Sheds s (s.placeIf c r) := sheds_ite (sheds_place s r)

theorem sheds_addAccrued (s : State) (n : Nat) : Sheds s (s.addAccrued n) := Sheds.of_same rfl rfl
theorem sheds_addDebited (s : State) (n : Nat) : Sheds s (s.addDebited n) := Sheds.of_same rfl rfl
theorem sheds_addDropped (s : State) (n : Nat) : Sheds s (s.addDropped n) := Sheds.of_same rfl rfl

theorem sheds_dropUnits (s : State) (p : Position) (n : Nat) (cause : DropCause) : Sheds s (s.dropUnits p n cause) :=
  (sheds_place ..).trans (sheds_addDropped ..)

theorem sheds_dropNoSerial (s : State) (p : Position) (n : Nat) : Sheds s (s.dropNoSerial p n) := by
  unfold State.dropNoSerial
  split
  · exact sheds_dropUnits ..
  · exact (sheds_dropUnits ..).trans (sheds_dropUnits ..)

theorem sheds_dropEntry (s : State) (e : ArrearsEntry) (cause : EntryDropCause) : Sheds s (s.dropEntry e cause) :=
  ((sheds_place ..).trans (sheds_placeIf ..)).trans (sheds_addDropped ..)

/-! ### Credit, W, clear-down and the known balance -/

theorem sheds_enterGrace (s : State) (p : Position) : Sheds s (s.enterGrace p) := sheds_onBooth ..

theorem sheds_evaluate (s : State) (p : Position) : Sheds s (s.evaluate p) := by
  rw [evaluate_frame]
  exact sheds_setBooth _ _ _ fun _ => id

theorem sheds_enterClearing (s : State) (p : Position) (cause : ClearCause) : Sheds s (s.enterClearing p cause) :=
  (sheds_onBooth ..).trans (sheds_place ..)

theorem sheds_clearSaturated (s : State) (p : Position) : Sheds s (s.clearSaturated p) :=
  sheds_ite (sheds_enterClearing ..)

theorem sheds_addOwed (s : State) (p : Position) (n : Nat) : Sheds s (s.addOwed p n) := by
  unfold State.addOwed
  dsimp only
  split
  · exact sheds_onBooth ..
  · exact (sheds_onBooth ..).trans (sheds_dropUnits ..)

theorem sheds_charge (s : State) (p : Position) (n : Nat) : Sheds s (s.charge p n) := by
  unfold State.charge
  split
  · exact (sheds_addOwed ..).trans (sheds_clearSaturated ..)
  · exact sheds_addOwed ..

theorem sheds_settlePending (s : State) (p : Position) : Sheds s (s.settlePending p) := by
  unfold State.settlePending
  split
  · exact (((sheds_onBooth ..).trans (sheds_addDebited ..)).trans (sheds_charge ..)).trans
      (sheds_evaluate ..)
  · exact Sheds.refl s

theorem sheds_takePair (s : State) (p : Position) (q : Pair) : Sheds s (s.takePair p q) := by
  unfold State.takePair
  split
  · exact (sheds_onBooth ..).trans (sheds_settlePending ..)
  · exact sheds_dropUnits ..

theorem sheds_setKnown (s : State) (p : Position) (n : Nat) : Sheds s (s.setKnown p n) := by
  unfold State.setKnown
  split
  · exact Sheds.refl s
  · exact (((sheds_onBooth ..).trans (sheds_onSlot ..)).trans (sheds_settlePending ..)).trans
      (sheds_evaluate ..)

theorem sheds_learnBalance (s : State) (p : Position) (n : Nat) (own : Bool) : Sheds s (s.learnBalance p n own) := by
  unfold State.learnBalance
  split
  · exact sheds_setKnown ..
  · exact (sheds_onSlot ..).trans (sheds_setKnown ..)

/-! ### Entries that leave the list, and direct transfer -/

theorem sheds_withoutEntry (s : State) (serial : Nat) : Sheds s { s with arrears := withoutEntry s.arrears serial } :=
  ⟨List.filter_sublist.map _, fun _ _ => id⟩

theorem sheds_expire (s : State) (e : ArrearsEntry) : Sheds s (s.expire e) :=
  (sheds_withoutEntry ..).trans (sheds_dropEntry ..)

/-- A collection takes the entry for its serial off the list, and beyond that only lets serials go (R68, R80). -/
theorem sheds_withoutEntry_collect (s : State) (p : Position) (n : Nat) :
    Sheds { s with arrears := withoutEntry s.arrears n } (s.collect p n) := by
  unfold State.collect
  split
  next hnone =>
    have absent : withoutEntry s.arrears n = s.arrears :=
      List.filter_eq_self.mpr fun e he => by simpa using List.find?_eq_none.mp hnone e he
    exact Sheds.of_same absent.symm rfl
  next =>
    dsimp only
    split
    · exact ((sheds_place ..).trans (sheds_charge ..)).trans (sheds_takePair ..)
    · exact (sheds_place ..).trans (sheds_charge ..)

theorem sheds_collect (s : State) (p : Position) (n : Nat) : Sheds s (s.collect p n) :=
  (sheds_withoutEntry ..).trans (sheds_withoutEntry_collect ..)

/-- After a collection the list holds no entry for the serial collected. -/
theorem collect_no_entry (s : State) (p : Position) (n : Nat) : ∀ e ∈ (s.collect p n).arrears, e.serial ≠ n :=
  (sheds_withoutEntry_collect s p n).no_entry fun e he => by simpa using (List.mem_filter.mp he).2

theorem sheds_transferPair (s : State) (r : Position) (pair : Option Pair) : Sheds s (s.transferPair r pair) := by
  unfold State.transferPair
  split
  · exact Sheds.refl s
  · split
    · exact sheds_dropUnits ..
    · exact (sheds_addOwed ..).trans (sheds_addDebited ..)
    · exact sheds_onBooth ..

/-- A direct transfer opens no entry (R71). -/
theorem sheds_transfer (s : State) (q r : Position) (serial u : Nat) (pair : Option Pair) :
    Sheds s (s.transfer q r serial u pair) := by
  unfold State.transfer
  dsimp only
  refine Sheds.trans ?_ (sheds_evaluate ..)
  have h := (((sheds_place s (.opened q serial u pair)).trans
    (sheds_place _ (.collected r serial u (s.handedK r pair)))).trans (sheds_addOwed _ r u)).trans
    (sheds_transferPair _ r pair)
  split
  · exact h.trans (sheds_clearSaturated ..)
  · exact h

/-! ### Calls and cards -/

theorem sheds_startCall (s : State) (p : Position) : Sheds s (s.startCall p) := by
  unfold State.startCall
  dsimp only
  split
  · exact (((sheds_onBooth ..).trans (sheds_addAccrued ..)).trans (sheds_charge ..)).trans
      (sheds_evaluate ..)
  · exact (sheds_onBooth ..).trans (sheds_enterClearing ..)

theorem sheds_startFaultCall (s : State) (p : Position) : Sheds s (s.startFaultCall p) :=
  (sheds_onBooth ..).trans (sheds_place ..)

theorem sheds_startResumed (s : State) (p : Position) : Sheds s (s.startResumed p) := by
  unfold State.startResumed
  dsimp only
  split
  · split
    · exact (sheds_onBooth ..).trans (sheds_evaluate ..)
    · exact (sheds_onBooth ..).trans (sheds_enterGrace ..)
  · exact (sheds_onBooth ..).trans (sheds_enterClearing ..)

theorem sheds_answerRise (s : State) (p : Position) : Sheds s (s.answerRise p) := by
  unfold State.answerRise
  split
  · exact sheds_startCall ..
  · exact sheds_onBooth ..
  · exact sheds_startFaultCall ..
  all_goals exact Sheds.refl s

theorem sheds_resumeFound (s : State) (p : Position) : Sheds s (s.resumeFound p) := by
  unfold State.resumeFound
  split
  · exact (sheds_onBooth ..).trans (sheds_startFaultCall ..)
  · split
    · exact Sheds.refl s
    · exact sheds_startResumed ..

theorem sheds_checkResume (s : State) (p : Position) : Sheds s (s.checkResume p) := by
  unfold State.checkResume
  split
  · exact sheds_resumeFound ..
  · exact sheds_onBooth ..
  · exact Sheds.refl s

/-- A card inserted has no serial yet (R6). -/
theorem sheds_insertCard (s : State) (p : Position) : Sheds s (s.insertCard p) := by
  unfold State.insertCard
  dsimp only
  split
  · exact (sheds_setBooth_forgotten ..).trans (sheds_startResumed ..)
  · exact sheds_setBooth_forgotten ..

theorem sheds_enterVacant (s : State) (p : Position) : Sheds s (s.onBooth p Booth.enterVacant) :=
  sheds_onBooth s p _ Booth.enterVacant_holds

theorem sheds_afterRemoval (s : State) (p : Position) : Sheds s (s.afterRemoval p) := by
  unfold State.afterRemoval
  split
  · exact sheds_enterVacant ..
  · exact sheds_enterGrace ..
  all_goals exact Sheds.refl s

/-! ### Writes in flight -/

theorem sheds_openRecord (s : State) (p : Position) (r : SlotRecord) (a : WordAddr) (v : Nat) :
    Sheds s (s.openRecord p r a v) :=
  ((sheds_onBooth ..).trans (sheds_onSlot ..)).trans (sheds_evaluate ..)

theorem sheds_settleRecord (s : State) (p : Position) (r : InFlight) (v : Nat) (own : Bool) :
    Sheds s (s.settleRecord p r v own) :=
  ((((sheds_onSlot ..).trans (sheds_addDebited ..)).trans (sheds_charge ..)).trans (sheds_learnBalance ..)).trans
    (sheds_evaluate ..)

theorem sheds_clearRecord (s : State) (p : Position) : Sheds s (s.clearRecord p) := sheds_onSlot ..

theorem sheds_notPerformed (s : State) (p : Position) (r : InFlight) : Sheds s (s.notPerformed p r) := by
  unfold State.notPerformed
  split
  · split
    · exact sheds_settleRecord ..
    · exact sheds_clearRecord ..
  · exact sheds_clearRecord ..

/-! ## Openings (R70 to R75) -/

/-- A new entry at the end of a part of a list that does not carry its serial. -/
theorem nodup_serials_append {l k : List ArrearsEntry} (h : (l.map ArrearsEntry.serial).Nodup) (hk : k.Sublist l)
    (e : ArrearsEntry) (hne : ∀ x ∈ k, x.serial ≠ e.serial) : ((k ++ [e]).map ArrearsEntry.serial).Nodup := by
  rw [List.map_append, List.map_singleton, ← List.concat_eq_append]
  refine (h.sublist (hk.map _)).concat fun hmem => ?_
  obtain ⟨x, hx, heq⟩ := List.mem_map.mp hmem
  exact hne x hx heq

/-- A merge or a new entry leaves no serial listed twice (R68, R73 to R75). -/
theorem openEntry_distinct {l : List ArrearsEntry} (h : (l.map ArrearsEntry.serial).Nodup) (q : Position)
    (serial u : Nat) (pair : Option Pair) : ((openEntry l q serial u pair).entries.map ArrearsEntry.serial).Nodup := by
  unfold openEntry
  split
  next => exact nodup_serials_append h List.filter_sublist _ fun x hx => by simpa using (List.mem_filter.mp hx).2
  next hnone =>
    have absent : ∀ x ∈ l, x.serial ≠ serial := fun x hx => by simpa using List.find?_eq_none.mp hnone x hx
    dsimp only
    split
    · exact nodup_serials_append h (List.tail_sublist l) _ fun x hx => absent x (List.mem_of_mem_tail hx)
    · exact nodup_serials_append h (List.Sublist.refl l) _ absent

/-- An opening adds no serial but its own. -/
theorem mem_openEntry {l : List ArrearsEntry} {q : Position} {serial u : Nat} {pair : Option Pair} {e : ArrearsEntry}
    (h : e ∈ (openEntry l q serial u pair).entries) : e ∈ l ∨ e.serial = serial := by
  unfold openEntry at h
  split at h
  · rcases List.mem_append.mp h with h | h
    · exact .inl (List.mem_filter.mp h).1
    · exact .inr (by rw [List.mem_singleton.mp h])
  · rcases List.mem_append.mp h with h | h
    · split at h
      · exact .inl (List.mem_of_mem_tail h)
      · exact .inl h
    · exact .inr (by rw [List.mem_singleton.mp h])

theorem sheds_dropEvicted (s : State) (e : Option ArrearsEntry) : Sheds s (s.dropEvicted e) := by
  cases e with
  | none => exact Sheds.refl s
  | some e => exact sheds_dropEntry ..

theorem sheds_dropExcess (s : State) (q : Position) (n : Nat) : Sheds s (s.dropExcess q n) :=
  sheds_ite (sheds_dropUnits ..)

theorem sheds_dropUnresolved (s : State) (q : Position) (k : Option Nat) : Sheds s (s.dropUnresolved q k) := by
  cases k with
  | none => exact Sheds.refl s
  | some k => exact sheds_dropUnits ..

/-- An opening in the list keeps serials apart where no booth holds its serial (R70, R72). -/
theorem openInList_apart {s : State} (hs : s.SerialsApart) (q : Position) {serial : Nat} (u : Nat) (pair : Option Pair)
    (hfree : ∀ p, (s.booth p).holds serial = false) : (s.openInList q serial u pair).SerialsApart := by
  have opened : { s with arrears := (openEntry s.arrears q serial u pair).entries }.SerialsApart :=
    { distinct := openEntry_distinct hs.distinct ..
      apart := fun p n hn e he => by
        rcases mem_openEntry he with hold | hnew
        · exact hs.apart p n hn e hold
        · rintro rfl
          rw [hnew] at hn
          exact Bool.noConfusion ((hfree p).symm.trans hn) }
  exact ((((sheds_dropEvicted ..).trans (sheds_place ..)).trans (sheds_dropExcess ..)).trans
    (sheds_dropUnresolved ..)).apart opened

theorem openArrears_apart {s : State} (hs : s.SerialsApart) (q : Position) (serial u : Nat) (pair : Option Pair) :
    (s.openArrears q serial u pair).SerialsApart := by
  unfold State.openArrears
  split
  next => exact (sheds_transfer ..).apart hs
  next hnone => exact openInList_apart hs q u pair (State.holds_of_holder_none hnone)

theorem sendOut_apart {s : State} (hs : s.SerialsApart) (p : Position) (debt : Option Nat) (u : Nat)
    (pair : Option Pair) : (s.sendOut p debt u pair).SerialsApart := by
  unfold State.sendOut
  split
  · exact hs
  · split
    · exact openArrears_apart hs ..
    · exact (sheds_dropNoSerial ..).apart hs

/-! ## Removal and identification (R7 to R9, R80) -/

/-- Serials are apart at every booth but `p`: how a state stands between the moment at which both halves of a serial are
known at `p` and its identification. -/
structure State.ApartElsewhere (s : State) (p : Position) : Prop where
  distinct : (s.arrears.map ArrearsEntry.serial).Nodup
  apart : ∀ q, q ≠ p → ∀ n, (s.booth q).holds n = true → ∀ e ∈ s.arrears, e.serial ≠ n

theorem Sheds.apartElsewhere {s t : State} {p : Position} (h : Sheds s t) (hs : s.ApartElsewhere p) :
    t.ApartElsewhere p where
  distinct := hs.distinct.sublist h.entries
  apart q hq n hn := h.no_entry (hs.apart q hq n (h.held q n hn))

/-- Whatever is written at `p`, serials stay apart at the other booths. -/
theorem setBooth_apartElsewhere {s : State} {p : Position} (hs : s.ApartElsewhere p) (b : Booth) :
    (s.setBooth p b).ApartElsewhere p where
  distinct := hs.distinct
  apart q hq n hn := hs.apart q hq n (by rwa [State.booth_setBooth_of_ne s hq] at hn)

theorem State.SerialsApart.elsewhere {s : State} (hs : s.SerialsApart) (p : Position) : s.ApartElsewhere p :=
  ⟨hs.distinct, fun q _ => hs.apart q⟩

/-- With the other booths apart, it is left to look at `p`. -/
theorem State.ApartElsewhere.serialsApart {s : State} {p : Position} (hs : s.ApartElsewhere p)
    (h : ∀ n, (s.booth p).holds n = true → ∀ e ∈ s.arrears, e.serial ≠ n) : s.SerialsApart where
  distinct := hs.distinct
  apart q n hn := by
    by_cases hq : q = p
    · subst hq
      exact h n hn
    · exact hs.apart q hq n hn

/-- A booth that forgets its card leaves serials apart everywhere. -/
theorem setBooth_forgotten_apart {s : State} {p : Position} (hs : s.ApartElsewhere p) {b : Booth}
    (h : b.serialHigh = none := by rfl) : (s.setBooth p b).SerialsApart :=
  (setBooth_apartElsewhere hs b).serialsApart fun n hn => by simp [Booth.holds_of_noHigh h] at hn

theorem removeCard_apart {s : State} {p : Position} (hs : s.ApartElsewhere p) (fixed : Option Nat) :
    (s.removeCard p fixed).SerialsApart := by
  unfold State.removeCard
  dsimp only
  exact (sheds_afterRemoval ..).apart (sendOut_apart ((sheds_setSlot ..).apart (setBooth_forgotten_apart hs)) ..)

/-- An identification collects the entry for the serial that the booth now holds (R7, R80). -/
theorem identified_apart {s : State} {p : Position} (hs : s.ApartElsewhere p) : (s.identified p).SerialsApart := by
  unfold State.identified
  split
  next hnone =>
    exact hs.serialsApart fun n hn => absurd (hnone.symm.trans (Booth.serial_of_holds hn)) (by simp)
  next n hn =>
    have last : Sheds s (s.onBooth p fun b => { b with lastSerial := if b.callUp then some n else b.lastSerial }) :=
      sheds_onBooth ..
    have sheds := last.trans (sheds_collect _ p n)
    refine (sheds_evaluate ..).apart ((sheds.apartElsewhere hs).serialsApart fun m hm => ?_)
    have same : some n = some m := hn.symm.trans (Booth.serial_of_holds (sheds.held p m hm))
    rw [← Option.some.inj same]
    exact collect_no_entry _ p n

theorem identify_apart {s : State} {p : Position} (hs : s.ApartElsewhere p) : (s.identify p).SerialsApart := by
  unfold State.identify
  dsimp only
  split
  next hnone =>
    exact hs.serialsApart fun n hn => absurd (hnone.symm.trans (Booth.serial_of_holds hn)) (by simp)
  next =>
    split
    · exact identified_apart hs
    · split
      · exact identified_apart (setBooth_apartElsewhere hs _)
      · have inserted := fun e => (sheds_insertCard _ p).apart (removeCard_apart hs (some e))
        exact identified_apart (setBooth_apartElsewhere ((inserted _).elsewhere p) _)

/-- A booth that holds neither half of a serial identifies no card by one half alone (R1, R7). -/
theorem Booth.withHalf_holds {b : Booth} (hhigh : b.serialHigh = none) (hlow : b.serialLow = none) (high : Bool)
    (v n : Nat) : (b.withHalf high v).holds n = false := by
  cases high <;> simp [Booth.withHalf, Booth.holds, Booth.serial, hhigh, hlow]

/-- A call that starts moves no half of the serial. -/
theorem startResumed_halves (s : State) (p : Position) :
    ((s.startResumed p).booth p).serialHigh = (s.booth p).serialHigh ∧
      ((s.startResumed p).booth p).serialLow = (s.booth p).serialLow := by
  unfold State.startResumed
  dsimp only
  split
  · split
    · rw [evaluate_frame]
      simp
    · simp [State.enterGrace]
  · simp [State.enterClearing]

/-- A card just inserted has neither half of its serial (R6). -/
theorem insertCard_halves (s : State) (p : Position) :
    ((s.insertCard p).booth p).serialHigh = none ∧ ((s.insertCard p).booth p).serialLow = none := by
  unfold State.insertCard
  dsimp only
  split
  · simpa [Booth.forgetCard] using startResumed_halves (s.setBooth p _) p
  · simp [Booth.forgetCard]

/-- A half of a serial read from a card keeps serials apart: it identifies the card and collects its entry, or it makes
a card change that leaves one half known (R2, R7, R8). -/
theorem readHalf_apart {s : State} (hs : s.SerialsApart) (p : Position) (high : Bool) (v : Nat) :
    (s.readHalf p high v).SerialsApart := by
  unfold State.readHalf
  split
  · exact identify_apart ((sheds_onSlot ..).apartElsewhere (setBooth_apartElsewhere (hs.elsewhere p) _))
  · split
    · exact hs
    · have inserted := (sheds_insertCard _ p).apart (removeCard_apart (hs.elsewhere p) none)
      obtain ⟨hhigh, hlow⟩ := insertCard_halves (s.removeCard p none) p
      exact (sheds_setBooth_holdless _ _ _ (Booth.withHalf_holds hhigh hlow high v)).apart inserted

/-! ## Ends of calls and reader faults (R17 to R19) -/

/-- A record placed and then a booth written with its card left alone. -/
theorem sheds_place_setBooth (s : State) (p : Position) (r : Report) (b : Booth)
    (h : ∀ n, b.holds n = (s.booth p).holds n := by exact fun _ => rfl) : Sheds s ((s.place r).setBooth p b) := by
  rw [State.place_setBooth]
  exact (sheds_setBooth s p b fun n hn => h n ▸ hn).trans (sheds_place ..)

theorem endCall_apart {s : State} (hs : s.SerialsApart) (p : Position) : (s.endCall p).SerialsApart := by
  unfold State.endCall
  dsimp only
  split
  · exact (sheds_place_setBooth ..).apart hs
  · exact (sheds_enterVacant ..).apart (sendOut_apart ((sheds_place_setBooth ..).apart hs) ..)

theorem endFaultCall_apart {s : State} (hs : s.SerialsApart) (p : Position) : (s.endFaultCall p).SerialsApart := by
  unfold State.endFaultCall
  dsimp only
  exact sendOut_apart ((sheds_place_setBooth ..).apart hs) ..

theorem lineFall_apart {s : State} (hs : s.SerialsApart) (p : Position) : (s.lineFall p).SerialsApart := by
  unfold State.lineFall
  split
  · split
    · exact endFaultCall_apart hs p
    · exact endCall_apart hs p
  · exact (sheds_ite (sheds_onBooth ..)).apart hs

theorem enterFault_apart {s : State} (hs : s.SerialsApart) (p : Position) : (s.enterFault p).SerialsApart := by
  unfold State.enterFault
  dsimp only
  exact (sheds_placeIf ..).apart (sendOut_apart ((((sheds_place ..).trans (sheds_setBooth_forgotten ..)).trans
    (sheds_setSlot ..)).apart hs) ..)

theorem declareFault_apart {s : State} (hs : s.SerialsApart) (p : Position) : (s.declareFault p).SerialsApart := by
  unfold State.declareFault
  split
  · exact ((sheds_place ..).trans (sheds_onSlot ..)).apart hs
  · exact enterFault_apart hs p

theorem leaveFault_apart {s : State} (hs : s.SerialsApart) (p : Position) : (s.leaveFault p).SerialsApart := by
  unfold State.leaveFault
  dsimp only
  refine ((sheds_placeIf ..).trans (sheds_onBooth (h := by exact fun _ _ => Booth.enterVacant_holds ..) ..)).apart ?_
  exact sendOut_apart (((sheds_setBooth_forgotten ..).trans (sheds_onSlot ..)).apart hs) ..

/-! ## Replies (R120) -/

theorem live_apart {f : State → State} (h : ∀ s, s.SerialsApart → (f s).SerialsApart) {s : State}
    (hs : s.SerialsApart) : (s.live f).SerialsApart := by
  unfold State.live
  split
  · exact hs
  · exact h s hs

theorem inFrame_apart {f : State → State} (h : ∀ s, s.SerialsApart → (f s).SerialsApart) {s : State}
    (hs : s.SerialsApart) : (s.inFrame f).SerialsApart := by
  refine live_apart (fun s hs => ?_) hs
  split
  · exact h s hs
  · exact hs

theorem sheds_reach (s : State) (n : Nat) : Sheds s (s.reach n) := Sheds.of_same rfl rfl

theorem presenceStep_apart {s : State} (hs : s.SerialsApart) (p : Position) (r : Reply) :
    (s.presenceStep p r).SerialsApart := by
  unfold State.presenceStep
  dsimp only
  split
  · split
    · exact leaveFault_apart hs p
    · exact hs
  · split
    · split
      · exact removeCard_apart (hs.elsewhere p) none
      · have noted : Sheds s ((s.clearRecord p).onBooth p fun b => { b with present := .no }) :=
          (sheds_clearRecord ..).trans (sheds_setBooth_holdless _ _ _ (Booth.holds_of_notPresent nofun))
        split
        · exact (noted.trans (sheds_startResumed ..)).apart hs
        · exact noted.apart hs
      · exact (sheds_clearRecord ..).apart hs
    · split
      · exact hs
      · exact (sheds_insertCard ..).apart hs

theorem sheds_recordStep (s : State) (p : Position) (sent : Option SlotRecord) (r : Reply) :
    Sheds s (s.recordStep p sent r) := by
  unfold State.recordStep
  split
  · split
    · split
      · split
        · exact sheds_settleRecord ..
        · exact sheds_clearRecord ..
      · exact sheds_notPerformed ..
    · exact sheds_notPerformed ..
    · exact sheds_notPerformed ..
    · exact sheds_notPerformed ..
    · exact sheds_notPerformed ..
    all_goals exact Sheds.refl s
  · split
    · split
      · exact sheds_openRecord ..
      all_goals exact Sheds.refl s
    · exact Sheds.refl s

theorem wordStep_apart {s : State} (hs : s.SerialsApart) (p : Position) (own : Bool) (r : Reply) :
    (s.wordStep p own r).SerialsApart := by
  unfold State.wordStep
  split
  · exact hs
  · split
    · split
      · exact readHalf_apart hs ..
      · split
        · exact readHalf_apart hs ..
        · split
          · exact (sheds_learnBalance ..).apart hs
          · exact (sheds_ite (sheds_onBooth ..)).apart hs
    · exact (sheds_ite (sheds_learnBalance ..)).apart hs
    · exact hs

theorem countTry_apart {s : State} (hs : s.SerialsApart) (p : Position) (h : Held) : (s.countTry p h).SerialsApart := by
  unfold State.countTry
  dsimp only
  split
  · exact declareFault_apart ((sheds_onSlot ..).apart hs) p
  · exact (sheds_onSlot ..).apart hs

theorem heldStep_apart {s : State} (hs : s.SerialsApart) (p : Position) (own : Bool) (r : Reply) :
    (s.heldStep p own r).SerialsApart := by
  unfold State.heldStep
  split
  · split
    · exact hs
    · split
      · exact countTry_apart hs ..
      · split
        · exact (sheds_ite (sheds_onSlot ..)).apart hs
        · exact hs
  · exact hs

theorem sheds_lockStep (s : State) (p : Position) (held : Option InFlight) (r : Reply) :
    Sheds s (s.lockStep p held r) :=
  sheds_ite (sheds_onSlot ..)

theorem takeReply_apart {s : State} (hs : s.SerialsApart) (p : Position) (sent : Option SlotRecord) (r : Reply) :
    (s.takeReply p sent r).SerialsApart := by
  have recorded := (sheds_recordStep _ p sent r).apart (presenceStep_apart hs p r)
  unfold State.takeReply
  dsimp only
  refine (sheds_lockStep ..).apart (heldStep_apart ?_ ..)
  split
  · exact recorded
  · exact wordStep_apart recorded ..

theorem sheds_answer (s : State) (p : Position) (u : UpReply) : Sheds s (s.answer p u) := Sheds.of_same rfl rfl

theorem reply_apart {s : State} (hs : s.SerialsApart) (p : Position) (r : Reply) (bytes : SlotBytes) :
    (s.reply p r bytes).SerialsApart :=
  inFrame_apart (fun _ hs => (sheds_answer ..).apart (takeReply_apart ((sheds_reach ..).apart hs) ..)) hs

/-! ## Requests (R106 to R116) -/

theorem sheds_arrive (p : Position) {f : State → State} (h : ∀ s, Sheds s (f s)) (s : State) :
    Sheds s (s.arrive p f) :=
  sheds_inFrame (fun s => (sheds_reach s _).trans (h _)) s

theorem sheds_send (s : State) (p : Position) (r : SlotRecord) (bytes : SlotBytes) : Sheds s (s.send p r bytes) :=
  Sheds.of_same rfl rfl

theorem sheds_sendNull (s : State) (p : Position) (t : Treatment) : Sheds s (s.sendNull p t) := sheds_send ..

theorem sheds_kill (s : State) (p : Position) (cause : RefuseCause) (attempted : Nat) :
    Sheds s (s.kill p cause attempted) :=
  (sheds_sendNull ..).trans (sheds_place ..)

theorem sheds_insert (s : State) (p : Position) (q : OwnRequest) (first : Bool) : Sheds s (s.insert p q first) := by
  unfold State.insert
  dsimp only
  split
  · exact (sheds_onSlot ..).trans (sheds_send ..)
  · exact sheds_send ..

theorem sheds_decideNull (s : State) (p : Position) : Sheds s (s.decideNull p) := by
  unfold State.decideNull
  split
  · split
    · exact sheds_insert ..
    · split
      · exact sheds_insert ..
      · exact sheds_sendNull ..
  · exact sheds_sendNull ..

theorem sheds_passWrite (s : State) (p : Position) (a : WordAddr) (v c : Word) (t : Treatment) :
    Sheds s (s.passWrite p a v c t) := by
  unfold State.passWrite
  dsimp only
  split
  · exact (sheds_onBooth ..).trans (sheds_send ..)
  · exact sheds_send ..

theorem sheds_vetted (s : State) (p : Position) (check : Option RefuseCause) (a : WordAddr) (v c : Word)
    (t : Treatment) : Sheds s (s.vetted p check a v c t) := by
  unfold State.vetted
  split
  · exact sheds_sendNull ..
  · split
    · exact sheds_kill ..
    · exact sheds_passWrite ..

/-! ## Headers and table words (R154 to R161) -/

theorem sheds_restartReports (s : State) : Sheds s s.restartReports := by
  have emptied : Sheds s { s with reports := [], lost := 0, port := { s.port with recordHeld := false } } :=
    Sheds.of_same rfl rfl
  exact emptied.trans (sheds_forAll (fun _ _ => sheds_onSlot ..) _)

theorem sheds_takeMinute (s : State) (minute : Word) : Sheds s (s.takeMinute minute) := by
  unfold State.takeMinute
  split <;> exact Sheds.of_same rfl rfl

theorem sheds_takeTariff (s : State) (band period charge : Byte) (rate : Word) :
    Sheds s (s.takeTariff band period charge rate) := by
  unfold State.takeTariff
  split <;> exact Sheds.of_same rfl rfl

theorem sheds_takeSchedule (s : State) (slot : Byte) (minute : Word) (period : Byte) :
    Sheds s (s.takeSchedule slot minute period) := by
  unfold State.takeSchedule
  split <;> exact Sheds.of_same rfl rfl

theorem sheds_takeSetting (s : State) (number : Byte) (value : Word) : Sheds s (s.takeSetting number value) :=
  Sheds.of_same rfl rfl

theorem sheds_takePosition (s : State) (number mode : Byte) : Sheds s (s.takePosition number mode) := by
  unfold State.takePosition
  split
  · exact sheds_onBooth _ _ _ fun b n => Booth.deliverMode_holds b _ n
  · exact Sheds.refl s

theorem sheds_takeTableWord (s : State) (table : TableBytes) : Sheds s (s.takeTableWord table) := by
  unfold State.takeTableWord
  split
  · exact sheds_takeTariff ..
  · exact sheds_takeSchedule ..
  · exact sheds_takeSetting ..
  · exact sheds_takePosition ..
  · exact Sheds.refl s

theorem sheds_headerArrival (s : State) (frame : Byte) (minute : Word) (flags : Byte) (table : TableBytes) :
    ∃ t, execHeaderArrival frame minute flags table s = .next t ∧ Sheds s t := by
  refine ⟨_, rfl, sheds_inFrame (fun s => ?_) s⟩
  have stamped : ∀ port, Sheds s { s with port := port } := fun _ => Sheds.of_same rfl rfl
  exact (((stamped _).trans (sheds_takeMinute ..)).trans (sheds_ite (sheds_restartReports _))).trans
    (sheds_ite (sheds_takeTableWord ..))

/-! ## The charge tick (R36, R78, R79) -/

theorem sheds_accrue (s : State) (p : Position) (rate : Nat) : Sheds s (s.accrue p rate) := by
  unfold State.accrue
  dsimp only
  split
  · exact (sheds_onBooth ..).trans (sheds_addAccrued ..)
  · exact (((sheds_onBooth ..).trans (sheds_addAccrued ..)).trans (sheds_charge ..)).trans (sheds_evaluate ..)

theorem sheds_countGrace (s : State) (p : Position) : Sheds s (s.countGrace p) := by
  unfold State.countGrace
  dsimp only
  split
  · exact sheds_enterClearing ..
  · exact sheds_onBooth ..

theorem sheds_moveTimer (s : State) (p : Position) : Sheds s (s.moveTimer p) := sheds_ite (sheds_onBooth ..)

theorem sheds_tickBooth (p : Position) (s : State) : Sheds s (s.tickBooth p) := by
  unfold State.tickBooth
  extract_lets b s1 s2
  have accrued : Sheds s s1 := by
    dsimp only [s1]
    split
    · exact sheds_accrue ..
    · exact Sheds.refl s
  have counted : Sheds s s2 := by
    dsimp only [s2]
    split
    · exact accrued.trans (sheds_countGrace ..)
    · exact accrued
  split
  · exact counted.trans (sheds_moveTimer ..)
  · exact counted

theorem sheds_toggleFlash (s : State) : Sheds s s.toggleFlash := Sheds.of_same rfl rfl

theorem sheds_ageEntries (s : State) : Sheds s s.ageEntries := by
  unfold State.ageEntries
  refine List.foldlRecOn _ _ ⟨?_, fun _ _ => id⟩ fun t ht e _ => ht.trans (sheds_expire t e)
  simp [Function.comp_def]

theorem sheds_arrearsExpiry (s : State) (serial : BitVec 32) :
    ∃ t, execArrearsExpiry serial s = .next t ∧ Sheds s t := by
  refine ⟨_, rfl, sheds_live (fun s => ?_) s⟩
  split
  · exact sheds_ite (sheds_expire ..)
  · exact Sheds.refl s

theorem sheds_tick (s : State) : Sheds s s.tick := by
  have counted : ∀ n, Sheds s { s with divider := 0, tickCount := n, sup := s.sup.tick } := fun _ =>
    Sheds.of_same rfl rfl
  exact (((counted _).trans (sheds_forAll sheds_tickBooth _)).trans (sheds_ite (sheds_toggleFlash _))).trans
    (sheds_ite (sheds_ageEntries _))

/-! ## Frames and losses (R92, R93, R117, R142 to R149) -/

theorem sheds_cutSlot (s : State) (t : Nat) (p : Position) : Sheds s (s.cutSlot t p) := by
  unfold State.cutSlot
  split
  · exact Sheds.refl s
  · dsimp only
    split
    · split
      · exact (sheds_onSlot ..).trans (sheds_openRecord ..)
      all_goals exact sheds_onSlot ..
    · split
      · exact (sheds_onSlot ..).trans (sheds_onSlot ..)
      · exact sheds_onSlot ..

theorem sheds_port (s : State) (port : Port) : Sheds s { s with port := port } := Sheds.of_same rfl rfl

theorem sheds_sup (s : State) (sup : Supervisor) : Sheds s { s with sup := sup } := Sheds.of_same rfl rfl

theorem sheds_cutFrame (s : State) (cut : Nat) : Sheds s (s.cutFrame cut) :=
  sheds_ite ((sheds_forAll (fun p s => sheds_cutSlot s _ p) s).trans (sheds_port ..))

theorem sheds_beginFrame (s : State) : Sheds s s.beginFrame := Sheds.of_same rfl rfl

theorem sheds_loseRecord (s : State) (p : Position) : Sheds s (s.loseRecord p) := by
  unfold State.loseRecord
  split
  · exact Sheds.refl s
  · dsimp only
    split
    · exact (sheds_clearRecord ..).trans (sheds_onBooth ..)
    · exact sheds_clearRecord ..

/-- At the entry to LOST a booth with its card present forgets the serial, and one without holds none (R144). -/
theorem Booth.loseCard_holds (b : Booth) (n : Nat) : b.loseCard.holds n = false := by
  unfold Booth.loseCard
  split
  next => exact Booth.holds_of_noHigh rfl n
  next h => exact Booth.holds_of_notPresent h n

theorem sheds_losePosition (p : Position) (s : State) : Sheds s (s.losePosition p) :=
  ((sheds_loseRecord ..).trans (sheds_onSlot ..)).trans (sheds_setBooth_holdless _ _ _ (Booth.loseCard_holds _))

theorem sheds_enterLost (s : State) (cut : Nat) : Sheds s (s.enterLost cut) := by
  have moved : ∀ (t : State) port sup, Sheds t { t with port := port, sup := sup } := fun _ _ _ =>
    Sheds.of_same rfl rfl
  exact (((sheds_cutFrame s cut).trans (sheds_forAll sheds_losePosition _)).trans (sheds_place ..)).trans (moved ..)

theorem sheds_expireFrameTimer (s : State) (cut : Nat) : Sheds s (s.expireFrameTimer cut) := by
  unfold State.expireFrameTimer
  dsimp only
  split
  · exact (sheds_sup ..).trans (sheds_enterLost ..)
  · exact sheds_sup ..

theorem sheds_frameTimeout (s : State) (cut : Nat) : ∃ t, execFrameTimeout cut s = .next t ∧ Sheds s t := by
  refine ⟨_, rfl, sheds_live (fun s => ?_) s⟩
  split
  · exact Sheds.refl s
  · exact sheds_expireFrameTimer ..

theorem sheds_enterLongLost (s : State) : Sheds s s.enterLongLost :=
  (sheds_sup ..).trans (sheds_forAll (fun _ _ => sheds_ite (sheds_enterClearing ..)) _)

theorem sheds_lowerLock (p : Position) (s : State) : Sheds s (s.lowerLock p) := by
  unfold State.lowerLock
  dsimp only
  split
  · exact Sheds.refl s
  · split
    · exact (sheds_onSlot ..).trans (sheds_place ..)
    · exact sheds_onSlot ..

theorem sheds_countFrame (p : Position) (s : State) : Sheds s (s.countFrame p) := sheds_onSlot ..

theorem timeOut_apart {s : State} (hs : s.SerialsApart) (p : Position) : (s.timeOut p).SerialsApart :=
  ite_apart (declareFault_apart hs p) hs

theorem sheds_completeFrame (s : State) : Sheds s s.completeFrame := by
  unfold State.completeFrame
  split
  · exact Sheds.refl s
  · dsimp only
    split
    · exact (sheds_sup ..).trans (sheds_enterLost ..)
    · exact sheds_sup ..
  all_goals
    dsimp only
    split
    · exact ((sheds_place ..).trans (sheds_sup ..)).trans (sheds_enterLost ..)
    · exact (sheds_place ..).trans (sheds_sup ..)

/-- The counts of a frame end, the reader faults that they declare and the move of the supervisor keep serials apart. -/
theorem frameEnd_apart {s : State} (hs : s.SerialsApart) (trailer : TenBytes) :
    ∃ t, execFrameEnd trailer s = .next t ∧ t.SerialsApart := by
  refine ⟨_, rfl, inFrame_apart (fun s hs => ?_) hs⟩
  dsimp only
  refine (sheds_completeFrame _).apart (forAll_induct (P := State.SerialsApart) (fun p _ h => timeOut_apart h p) _ ?_)
  exact ((((sheds_reach s 152).trans (sheds_port ..)).trans (sheds_forAll sheds_lowerLock _)).trans
    (sheds_forAll sheds_countFrame _)).apart hs

theorem sheds_beginTrailer (s : State) : Sheds s s.beginTrailer := by
  unfold State.beginTrailer
  split
  · exact Sheds.refl s
  · exact sheds_port ..

theorem sheds_giveUpRecord (s : State) (sent : Nat) : Sheds s (s.giveUpRecord sent) := by
  unfold State.giveUpRecord
  split <;> exact Sheds.of_same rfl rfl

theorem sheds_emitTrailer (s : State) (sent : Nat) : Sheds s (s.emitTrailer sent) := Sheds.of_same rfl rfl

/-- The bytes of a trailer, from the record taken to the counts (R103). -/
theorem sheds_trailer (s : State) (sent n : Nat) :
    Sheds s ((((s.reach n).beginTrailer).giveUpRecord sent).emitTrailer sent) :=
  (((sheds_reach ..).trans (sheds_beginTrailer _)).trans (sheds_giveUpRecord ..)).trans (sheds_emitTrailer ..)

/-! ## The line scan (R129 to R134) -/

theorem sheds_scan (s : State) (scan : Scanner) : Sheds s { s with scan := scan } := Sheds.of_same rfl rfl

theorem loopEvent_apart {s : State} (hs : s.SerialsApart) (p : Position) (e : LineEvent) :
    (s.loopEvent p e).SerialsApart := by
  cases e with
  | first high => exact (sheds_ite ((sheds_onBooth ..).trans (sheds_checkResume ..))).apart hs
  | rise => exact hs
  | fall => exact lineFall_apart hs p

theorem answerEvent_apart {s : State} (hs : s.SerialsApart) (p : Position) (e : LineEvent) :
    (s.answerEvent p e).SerialsApart := by
  cases e with
  | first high => exact (sheds_ite ((sheds_onBooth ..).trans (sheds_checkResume ..))).apart hs
  | rise => exact (sheds_ite (sheds_answerRise ..)).apart hs
  | fall => exact lineFall_apart hs p

theorem deliver_apart {s : State} (hs : s.SerialsApart) (p : Position) (e : Option LineEvent)
    {act : State → LineEvent → State} (h : s.SerialsApart → ∀ x, (act s x).SerialsApart) :
    (s.deliver p e act).SerialsApart := by
  unfold State.deliver
  split
  · exact hs
  · split
    · exact hs
    · exact h hs _

theorem sampleLoop_apart {s : State} (hs : s.SerialsApart) (p : Position) (level : Bool) :
    (s.sampleLoop p level).SerialsApart := by
  unfold State.sampleLoop
  dsimp only
  exact deliver_apart ((sheds_scan ..).apart hs) _ _ fun ht x => loopEvent_apart ht p x

theorem sampleAnswer_apart {s : State} (hs : s.SerialsApart) (p : Position) (level : Bool) :
    (s.sampleAnswer p level).SerialsApart := by
  unfold State.sampleAnswer
  dsimp only
  exact deliver_apart ((sheds_scan ..).apart hs) _ _ fun ht x => answerEvent_apart ht p x

theorem sampleColumn_apart {s : State} (hs : s.SerialsApart) (rows : RowInputs) : (s.sampleColumn rows).SerialsApart :=
  List.foldlRecOn _ _ ((sheds_scan ..).apart hs) fun _ ht p _ => sampleAnswer_apart (sampleLoop_apart ht p _) p _

theorem sheds_draw (s : State) : Sheds s { s with draws := s.draws + 1 } := Sheds.of_same rfl rfl

theorem takeSample_apart {s : State} (hs : s.SerialsApart) : s.takeSample.SerialsApart := by
  unfold State.takeSample
  split
  · exact hs
  · exact sampleColumn_apart ((sheds_draw s).apart hs) _

theorem sheds_startDrive (s : State) : Sheds s s.startDrive := sheds_scan ..

theorem sheds_startStep (s : State) (column : Fin 6) : Sheds s (s.startStep column) := sheds_scan ..

theorem endSegment_apart {s : State} (hs : s.SerialsApart) : s.endSegment.SerialsApart := by
  unfold State.endSegment
  split
  · exact hs
  · exact (sheds_startDrive _).apart (takeSample_apart hs)
  · exact (sheds_startStep ..).apart hs

theorem scanStepStart_apart {s : State} (hs : s.SerialsApart) :
    ∃ t, execScanStepStart s = .next t ∧ t.SerialsApart := by
  refine ⟨_, rfl, live_apart (fun s hs => ?_) hs⟩
  split
  · exact hs
  · exact (sheds_startStep ..).apart (takeSample_apart hs)
  · exact (sheds_startStep ..).apart hs

/-! ## Resets (R23, R77, R179) -/

/-- A state in which no booth holds a serial is apart once its list names no serial twice. -/
theorem serialsApart_of_held_none {s : State} (hd : (s.arrears.map ArrearsEntry.serial).Nodup)
    (h : ∀ p n, (s.booth p).holds n = false) : s.SerialsApart where
  distinct := hd
  apart p n hn := Bool.noConfusion ((h p n).symm.trans hn)

theorem powerOn_apart : State.powerOn.SerialsApart :=
  serialsApart_of_held_none List.nodup_nil fun p =>
    Booth.holds_of_noHigh (by simp [State.booth, State.powerOn, Booth.powerOn])

theorem warmBooth_distinct {x : WarmSum} (h : (x.arrears.map ArrearsEntry.serial).Nodup) (b : Booth) (c : Intercept)
    (p : Position) : ((warmBooth b c p x).arrears.map ArrearsEntry.serial).Nodup := by
  unfold warmBooth
  dsimp only
  split
  · exact h
  · split
    · exact h
    · exact openEntry_distinct h ..

/-- The openings of a warm reset name no serial twice (R68, R77). -/
theorem warmSum_distinct {s : State} (h : (s.arrears.map ArrearsEntry.serial).Nodup) :
    (s.warmSum.arrears.map ArrearsEntry.serial).Nodup :=
  List.foldlRecOn (motive := fun x : WarmSum => (x.arrears.map ArrearsEntry.serial).Nodup) _ _ h
    fun _ hx _ _ => warmBooth_distinct hx ..

theorem warmBooths_booth (s : State) (p : Position) : s.warmBooths.booth p = (s.booth p).warm :=
  (booth_forAll (g := fun _ b _ => b.warm) (k := fun _ _ c => c) (fun _ _ => by simp) (fun _ _ => by simp)
    (fun _ _ _ hq => by simp [hq]) (fun _ _ _ _ => by simp) s p).1

theorem warm_booth (s : State) (p : Position) : s.warm.booth p = (s.booth p).warm := by
  have same : s.warm.booths = s.warmBooths.booths := by
    unfold State.warm
    rfl
  rw [← warmBooths_booth, State.booth, same, State.booth]

/-- A warm reset leaves no booth with a serial, and its list names none twice (R23, R72, R77). -/
theorem warm_apart {s : State} (hs : s.SerialsApart) : s.warm.SerialsApart :=
  serialsApart_of_held_none (warmSum_distinct hs.distinct) fun p n => by
    rw [warm_booth]
    exact Booth.holds_of_noHigh rfl n

theorem resetPulse_apart {s : State} (hs : s.SerialsApart) (periods : Nat) : (s.resetPulse periods).SerialsApart := by
  have drawn := (sheds_draw s).apart hs
  unfold State.resetPulse
  split
  · exact hs
  · split
    · exact warm_apart hs
    · dsimp only
      split
      · exact warm_apart drawn
      · exact drawn

theorem sheds_lowerLine (s : State) (periods : Nat) : Sheds s (s.lowerLine periods) := by
  unfold State.lowerLine
  split <;> exact Sheds.of_same rfl rfl

theorem sheds_holdPeriod (s : State) : Sheds s s.holdPeriod := by
  unfold State.holdPeriod
  split
  · exact Sheds.refl s
  · dsimp only
    split <;> exact Sheds.of_same rfl rfl

theorem warmReset_apart {s : State} (hs : s.SerialsApart) (periods : Nat) :
    ∃ t, execWarmReset periods s = .next t ∧ t.SerialsApart := by
  refine ⟨_, rfl, ?_⟩
  split
  · exact (sheds_lowerLine ..).apart hs
  · exact resetPulse_apart hs periods

theorem sheds_resetRelease (s : State) (strap : Bool) : ∃ t, execResetRelease strap s = .next t ∧ Sheds s t := by
  refine ⟨_, rfl, ?_⟩
  split
  · dsimp only
    split <;> exact Sheds.of_same rfl rfl
  · exact Sheds.refl s

/-! ## The clock (R24, R129, R142, R146) -/

theorem happen_apart {s : State} (hs : s.SerialsApart) (d : Due) : (s.happen d).SerialsApart := by
  cases d with
  | frameTimer => exact (sheds_expireFrameTimer s 0).apart hs
  | lossTimer => exact (sheds_ite (sheds_enterLongLost s)).apart hs
  | tick => exact (sheds_tick s).apart hs
  | segment => exact endSegment_apart hs

theorem sheds_leaveSense (s : State) : Sheds s s.leaveSense := sheds_ite (sheds_startDrive s)

/-- The counters of a period, with the free values that its order takes. -/
theorem sheds_countPeriod (s : State) (n : Nat) : Sheds s { s.countPeriod with draws := n } := Sheds.of_same rfl rfl

theorem clockPeriod_apart {s : State} (hs : s.SerialsApart) : s.clockPeriod.SerialsApart := by
  unfold State.clockPeriod
  split
  · exact (sheds_holdPeriod s).apart hs
  · have left := (sheds_leaveSense s).apart hs
    exact List.foldlRecOn _ _ ((sheds_countPeriod ..).apart left) fun _ ht d _ => happen_apart ht d

/-! ## Every command -/

/-- Every command has a next state, and keeps serials apart (R68, R72). -/
theorem exec_apart {s : State} (hs : s.SerialsApart) (c : Instr) : ∃ t, exec c s = .next t ∧ t.SerialsApart := by
  cases c with
  | powerOnReset => exact ⟨_, rfl, powerOn_apart.of_same rfl rfl⟩
  | warmReset periods => exact warmReset_apart hs periods
  | frameStart cut =>
    exact ⟨_, rfl, (sheds_live (fun _ => (sheds_cutFrame ..).trans (sheds_beginFrame _)) s).apart hs⟩
  | headerArrival frame minute flags table =>
    obtain ⟨t, ht, sheds⟩ := sheds_headerArrival s frame minute flags table
    exact ⟨t, ht, sheds.apart hs⟩
  | restart => exact ⟨_, rfl, (sheds_live sheds_restartReports s).apart hs⟩
  | tariff band period charge rate => exact ⟨_, rfl, (sheds_live (fun _ => sheds_takeTariff ..) s).apart hs⟩
  | schedule slot minute period => exact ⟨_, rfl, (sheds_live (fun _ => sheds_takeSchedule ..) s).apart hs⟩
  | setting number value => exact ⟨_, rfl, (sheds_live (fun _ => sheds_takeSetting ..) s).apart hs⟩
  | position number mode => exact ⟨_, rfl, (sheds_live (fun _ => sheds_takePosition ..) s).apart hs⟩
  | null p => exact ⟨_, rfl, (sheds_arrive p (fun s => sheds_decideNull s p) s).apart hs⟩
  | read p a rest => exact ⟨_, rfl, (sheds_arrive p (fun _ => sheds_send ..) s).apart hs⟩
  | write p a v c => exact ⟨_, rfl, (sheds_arrive p (fun _ => sheds_vetted ..) s).apart hs⟩
  | protectedWrite p a v c => exact ⟨_, rfl, (sheds_arrive p (fun _ => sheds_vetted ..) s).apart hs⟩
  | lockedRead p a rest =>
    exact ⟨_, rfl, (sheds_arrive p (fun _ => (sheds_onSlot ..).trans (sheds_send ..)) s).apart hs⟩
  | unlock p => exact ⟨_, rfl, (sheds_arrive p (fun _ => (sheds_onSlot ..).trans (sheds_sendNull ..)) s).apart hs⟩
  | unknownKind p code => exact ⟨_, rfl, (sheds_arrive p (fun _ => sheds_kill ..) s).apart hs⟩
  | absent p rest => exact ⟨_, rfl, reply_apart hs ..⟩
  | ready p rest => exact ⟨_, rfl, reply_apart hs ..⟩
  | data p a v last => exact ⟨_, rfl, reply_apart hs ..⟩
  | accepted p a rest => exact ⟨_, rfl, reply_apart hs ..⟩
  | busy p rest => exact ⟨_, rfl, reply_apart hs ..⟩
  | written p a v last => exact ⟨_, rfl, reply_apart hs ..⟩
  | error p rest => exact ⟨_, rfl, reply_apart hs ..⟩
  | unknownStatus p bytes => exact ⟨_, rfl, reply_apart hs ..⟩
  | frameEnd trailer => exact frameEnd_apart hs trailer
  | lockExpired p => exact ⟨_, rfl, (sheds_live (fun s => sheds_ite (sheds_lowerLock p s)) s).apart hs⟩
  | writeTimeout p => exact ⟨_, rfl, live_apart (fun _ hs => ite_apart (declareFault_apart hs p) hs) hs⟩
  | trailerRecord sent =>
    exact ⟨_, rfl, (sheds_live (fun _ => sheds_ite (sheds_trailer ..)) s).apart hs⟩
  | frameTimeout cut =>
    obtain ⟨t, ht, sheds⟩ := sheds_frameTimeout s cut
    exact ⟨t, ht, sheds.apart hs⟩
  | longLost => exact ⟨_, rfl, (sheds_live (fun s => sheds_ite (sheds_enterLongLost s)) s).apart hs⟩
  | chargeTick => exact ⟨_, rfl, (sheds_live sheds_tick s).apart hs⟩
  | graceExpired p => exact ⟨_, rfl, (sheds_live (fun s => sheds_ite (sheds_countGrace s p)) s).apart hs⟩
  | clearDownAssertEnd p => exact ⟨_, rfl, (sheds_live (fun s => sheds_ite (sheds_moveTimer s p)) s).apart hs⟩
  | clearDownGapEnd p => exact ⟨_, rfl, (sheds_live (fun s => sheds_ite (sheds_moveTimer s p)) s).apart hs⟩
  | flashStep => exact ⟨_, rfl, (sheds_live sheds_toggleFlash s).apart hs⟩
  | ageStep => exact ⟨_, rfl, (sheds_live sheds_ageEntries s).apart hs⟩
  | arrearsExpiry serial =>
    obtain ⟨t, ht, sheds⟩ := sheds_arrearsExpiry s serial
    exact ⟨t, ht, sheds.apart hs⟩
  | scanStepStart => exact scanStepStart_apart hs
  | senseSample rows => exact ⟨_, rfl, live_apart (fun _ hs => ite_apart (sampleColumn_apart hs rows) hs) hs⟩
  | driveSegment =>
    exact ⟨_, rfl, live_apart (fun _ hs => ite_apart ((sheds_startDrive _).apart (takeSample_apart hs)) hs) hs⟩
  | resetRelease strap =>
    obtain ⟨t, ht, sheds⟩ := sheds_resetRelease s strap
    exact ⟨t, ht, sheds.apart hs⟩

/-- Settles O55: the command at the front of the queue keeps serials apart, and so does a period of the reference clock
(R68, R72). -/
theorem everyStepKeepsSerialsApart : Obligations.EveryStepKeepsSerialsApart := by
  intro s t hs hstep
  unfold step at hstep
  split at hstep
  next => exact Host.Outcome.next.inj hstep ▸ clockPeriod_apart hs
  next c rest _ =>
    have queued : { s with pending := rest }.SerialsApart := hs.of_same rfl rfl
    obtain ⟨u, hu, apart⟩ := exec_apart queued c
    exact Host.Outcome.next.inj (hu.symm.trans hstep) ▸ apart

end Sys2Proof.Machine

/-! An unknown kind code is killed whatever else stands at its position (R112, R113), and a write of word 4 that goes out
to a reader stays within the known balance, protected writes apart (R114).

For R114, `Forwards P s t` says that every slot sent to a reader between `s` and `t` meets `P`. A command that is no
request sends nothing, and each request sends one slot, whose bytes are looked at case by case. -/

namespace Sys2Proof.Machine

/-! ## An unknown kind (R112, R113) -/

/-- A request killed at its arrival: NULL goes to the reader, and the REFUSED WRITE record is placed (R112). -/
theorem kill_reach (s : State) (p : Position) (cause : RefuseCause) (attempted : Nat) :
    (s.reach (requestIn p)).kill p cause attempted =
      (s.requested p (s.booth p) (s.slot p)
        { origin := .row, sent := .null, treatment := .killed cause attempted } 0).place
          (.refusedWrite p cause attempted) := by
  unfold State.kill State.sendNull
  rw [send_reach]
  rfl

/-- Any reply in a killed slot is shown as REFUSED (R121). -/
theorem upstream_killed (q : SlotRecord) {cause : RefuseCause} {x : Nat} (h : q.treatment = .killed cause x)
    (held : Option InFlight) (r : Reply) (bytes : SlotBytes) : upstream (some q) held r bytes = .refused cause x := by
  simp [upstream, h]

/-- Settles O9: the kill looks at no mode, state, lock or record, and no reply passes a killed slot. -/
theorem unknownKindIsKilled : Obligations.UnknownKindIsKilled := by
  intro s p code htaking
  refine ⟨?_, upstream_killed _ rfl⟩
  have arrives : exec (.unknownKind p code) s = .next ((s.reach (requestIn p)).kill p .kind code.toNat) :=
    congrArg Host.Outcome.next (State.inFrame_of_taking htaking _)
  rw [arrives, kill_reach]
  rfl

/-! ## What goes out to the readers (R90, R105) -/

/-- From `s` to `t` the slots that go out to the readers meet `P`: a slot filled in `t` was filled alike in `s`, or `P`
holds of its position and bytes. -/
structure Forwards (P : Position → SlotBytes → Prop) (s t : State) : Prop where
  slot : ∀ (p : Position) (w : SlotBytes), t.port.downSlots[p] = some w → s.port.downSlots[p] = some w ∨ P p w

/-- From `s` to `t` nothing goes out to a reader. -/
def SendsNone : State → State → Prop := Forwards fun _ _ => False

theorem Forwards.mono {P Q : Position → SlotBytes → Prop} {s t : State} (h : Forwards P s t)
    (hpq : ∀ p w, P p w → Q p w) : Forwards Q s t :=
  ⟨fun p w hw => (h.slot p w hw).imp_right (hpq p w)⟩

theorem Forwards.trans {P : Position → SlotBytes → Prop} {s t u : State} (h : Forwards P s t) (h' : Forwards P t u) :
    Forwards P s u :=
  ⟨fun p w hw => (h'.slot p w hw).elim (h.slot p w) .inr⟩

theorem SendsNone.forwards {s t : State} (h : SendsNone s t) (P : Position → SlotBytes → Prop) : Forwards P s t :=
  h.mono fun _ _ => False.elim

theorem SendsNone.trans {s t u : State} (h : SendsNone s t) (h' : SendsNone t u) : SendsNone s u :=
  Forwards.trans h h'

theorem SendsNone.of_slots {s t : State} (h : t.port.downSlots = s.port.downSlots) : SendsNone s t :=
  ⟨fun _ _ hw => .inl (h ▸ hw)⟩

theorem SendsNone.refl (s : State) : SendsNone s s := .of_slots rfl

theorem SendsNone.of_rest {s t : State} (h : SameRest s t) : SendsNone s t := by
  obtain ⟨_, _, port⟩ := h
  exact .of_slots (congrArg Port.downSlots port)

/-- Outputs at idle fill carry no request (R89, R93). -/
theorem SendsNone.of_idle {s t : State} (h : t.port.downSlots = Port.reset.downSlots) : SendsNone s t := by
  refine ⟨fun p w hw => ?_⟩
  rw [h] at hw
  simp [Port.reset] at hw

/-- What changes no slot towards a reader at the port sends nothing. -/
theorem sendsNone_port (s : State) (x : Port) (h : x.downSlots = s.port.downSlots := by rfl) :
    SendsNone s { s with port := x } := .of_slots h

theorem sendsNone_reach (s : State) (n : Nat) : SendsNone s (s.reach n) := sendsNone_port ..

theorem sendsNone_ite {s t : State} (h : SendsNone s t) {c : Prop} [Decidable c] :
    SendsNone s (if c then t else s) := by
  split
  · exact h
  · exact SendsNone.refl s

theorem forwards_live {P : Position → SlotBytes → Prop} {s : State} {f : State → State} (h : Forwards P s (f s)) :
    Forwards P s (s.live f) := by
  unfold State.live
  split
  · exact (SendsNone.refl s).forwards P
  · exact h

theorem forwards_inFrame {P : Position → SlotBytes → Prop} {s : State} {f : State → State} (h : Forwards P s (f s)) :
    Forwards P s (s.inFrame f) := by
  refine forwards_live ?_
  split
  · exact h
  · exact (SendsNone.refl s).forwards P

theorem sendsNone_live {s : State} {f : State → State} (h : SendsNone s (f s)) : SendsNone s (s.live f) :=
  forwards_live h

theorem sendsNone_inFrame {s : State} {f : State → State} (h : SendsNone s (f s)) : SendsNone s (s.inFrame f) :=
  forwards_inFrame h

theorem sendsNone_forAll {f : Position → State → State} (h : ∀ p s, SendsNone s (f p s)) (s : State) :
    SendsNone s (s.forAll f) :=
  forAll_induct (P := SendsNone s) (fun p t ht => ht.trans (h p t)) s (SendsNone.refl s)

/-! ## Replies send nothing (R120) -/

theorem sameRest_presenceStep (s : State) (p : Position) (r : Reply) : SameRest s (s.presenceStep p r) := by
  unfold State.presenceStep
  dsimp only
  split
  · split
    · exact sameRest_leaveFault ..
    · exact SameRest.refl s
  · split
    · split
      · exact sameRest_removeCard ..
      · split
        · exact ((sameRest_onSlot ..).trans (sameRest_onBooth ..)).trans (localAt_startResumed ..).rest
        · exact (sameRest_onSlot ..).trans (sameRest_onBooth ..)
      · exact sameRest_onSlot ..
    · split
      · exact SameRest.refl s
      · exact (localAt_insertCard ..).rest

theorem sameRest_recordStep (s : State) (p : Position) (sent : Option SlotRecord) (r : Reply) :
    SameRest s (s.recordStep p sent r) := by
  unfold State.recordStep
  split
  · split
    · split
      · split
        · exact (localAt_settleRecord ..).rest
        · exact sameRest_onSlot ..
      · exact (localAt_notPerformed ..).rest
    any_goals exact (localAt_notPerformed ..).rest
    all_goals exact SameRest.refl s
  · split
    · split
      · exact (localAt_openRecord ..).rest
      all_goals exact SameRest.refl s
    · exact SameRest.refl s

theorem sameRest_wordStep (s : State) (p : Position) (own : Bool) (r : Reply) : SameRest s (s.wordStep p own r) := by
  unfold State.wordStep
  split
  · exact SameRest.refl s
  · split
    · split_ifs
      · exact sameRest_readHalf ..
      · exact sameRest_readHalf ..
      · exact (localAt_learnBalance ..).rest
      · exact sameRest_onBooth ..
      · exact SameRest.refl s
    · split
      · exact (localAt_learnBalance ..).rest
      · exact SameRest.refl s
    · exact SameRest.refl s

theorem sameRest_countTry (s : State) (p : Position) (h : Held) : SameRest s (s.countTry p h) := by
  unfold State.countTry
  dsimp only
  split
  · exact (sameRest_onSlot ..).trans (sameRest_declareFault ..)
  · exact sameRest_onSlot ..

theorem sameRest_heldStep (s : State) (p : Position) (own : Bool) (r : Reply) : SameRest s (s.heldStep p own r) := by
  unfold State.heldStep
  split
  · split
    · exact SameRest.refl s
    · split
      · exact sameRest_countTry ..
      · split
        · split
          · exact sameRest_onSlot ..
          · exact SameRest.refl s
        · exact SameRest.refl s
  · exact SameRest.refl s

theorem sameRest_lockStep (s : State) (p : Position) (held : Option InFlight) (r : Reply) :
    SameRest s (s.lockStep p held r) := by
  unfold State.lockStep
  split
  · exact sameRest_onSlot ..
  · exact SameRest.refl s

/-- Steps 1 to 5 of a reply arrival leave the port alone (R120). -/
theorem sameRest_takeReply (s : State) (p : Position) (sent : Option SlotRecord) (r : Reply) :
    SameRest s (s.takeReply p sent r) := by
  have recorded := (sameRest_presenceStep s p r).trans (sameRest_recordStep _ p sent r)
  unfold State.takeReply
  dsimp only
  refine SameRest.trans ?_ ((sameRest_heldStep ..).trans (sameRest_lockStep ..))
  split
  · exact recorded
  · exact recorded.trans (sameRest_wordStep ..)

theorem sendsNone_reply (s : State) (p : Position) (r : Reply) (bytes : SlotBytes) :
    SendsNone s (s.reply p r bytes) := by
  have answered : ∀ (t : State) u, SendsNone t (t.answer p u) := fun _ _ => .of_slots rfl
  exact sendsNone_inFrame (((sendsNone_reach ..).trans (.of_rest (sameRest_takeReply ..))).trans (answered ..))

/-! ## Headers and table words send nothing (R154 to R161) -/

theorem sendsNone_restartReports (s : State) : SendsNone s s.restartReports := by
  have emptied : SendsNone s { s with reports := [], lost := 0, port := { s.port with recordHeld := false } } :=
    .of_slots rfl
  exact emptied.trans (sendsNone_forAll (fun _ _ => .of_rest (sameRest_onSlot ..)) _)

theorem sendsNone_takeMinute (s : State) (minute : Word) : SendsNone s (s.takeMinute minute) := by
  unfold State.takeMinute
  split <;> exact .of_slots rfl

theorem sendsNone_takeTariff (s : State) (band period charge : Byte) (rate : Word) :
    SendsNone s (s.takeTariff band period charge rate) := by
  unfold State.takeTariff
  split <;> exact .of_slots rfl

theorem sendsNone_takeSchedule (s : State) (slot : Byte) (minute : Word) (period : Byte) :
    SendsNone s (s.takeSchedule slot minute period) := by
  unfold State.takeSchedule
  split <;> exact .of_slots rfl

theorem sendsNone_takeSetting (s : State) (number : Byte) (value : Word) : SendsNone s (s.takeSetting number value) :=
  .of_slots rfl

theorem sendsNone_takePosition (s : State) (number mode : Byte) : SendsNone s (s.takePosition number mode) := by
  unfold State.takePosition
  split <;> exact .of_slots rfl

theorem sendsNone_takeTableWord (s : State) (table : TableBytes) : SendsNone s (s.takeTableWord table) := by
  unfold State.takeTableWord
  split
  · exact sendsNone_takeTariff ..
  · exact sendsNone_takeSchedule ..
  · exact sendsNone_takeSetting ..
  · exact sendsNone_takePosition ..
  · exact SendsNone.refl s

theorem sendsNone_headerArrival (s : State) (frame : Byte) (minute : Word) (flags : Byte) (table : TableBytes) :
    ∃ t, execHeaderArrival frame minute flags table s = .next t ∧ SendsNone s t := by
  refine ⟨_, rfl, sendsNone_inFrame ?_⟩
  have numbered : SendsNone s { s.reach 10 with
      port := { (s.reach 10).port with frameNumber := some frame, upHeader := some frame,
                                       downHeader := some (headerBytes frame minute flags table) } } :=
    (sendsNone_reach ..).trans (sendsNone_port ..)
  exact ((numbered.trans (sendsNone_takeMinute ..)).trans (sendsNone_ite (sendsNone_restartReports _))).trans
    (sendsNone_ite (sendsNone_takeTableWord ..))

/-! ## Ticks send nothing (R36, R78, R79) -/

theorem localAt_accrue (s : State) (p : Position) (rate : Nat) : LocalAt p s (s.accrue p rate) := by
  unfold State.accrue
  dsimp only
  split
  · exact (localAt_onBooth ..).trans (localAt_addAccrued ..)
  · exact (((localAt_onBooth ..).trans (localAt_addAccrued ..)).trans (localAt_charge ..)).trans (localAt_evaluate ..)

theorem localAt_countGrace (s : State) (p : Position) : LocalAt p s (s.countGrace p) := by
  unfold State.countGrace
  dsimp only
  split
  · exact localAt_enterClearing ..
  · exact localAt_onBooth ..

theorem localAt_moveTimer (s : State) (p : Position) : LocalAt p s (s.moveTimer p) := by
  unfold State.moveTimer
  split
  · exact localAt_onBooth ..
  · exact LocalAt.refl p s

/-- A tick at one booth touches that booth alone (R36). -/
theorem localAt_tickBooth (p : Position) (s : State) : LocalAt p s (s.tickBooth p) := by
  unfold State.tickBooth
  extract_lets b s1 s2
  have accrued : LocalAt p s s1 := by
    dsimp only [s1]
    split
    · exact localAt_accrue ..
    · exact LocalAt.refl p s
  have counted : LocalAt p s s2 := by
    dsimp only [s2]
    split
    · exact accrued.trans (localAt_countGrace ..)
    · exact accrued
  split
  · exact counted.trans (localAt_moveTimer ..)
  · exact counted

theorem sendsNone_toggleFlash (s : State) : SendsNone s s.toggleFlash := .of_slots rfl

theorem sameRest_expire (s : State) (e : ArrearsEntry) : SameRest s (s.expire e) :=
  (sameRest_arrears ..).trans (localAt_dropEntry _ e.origin e _).rest

theorem sendsNone_ageEntries (s : State) : SendsNone s s.ageEntries := by
  unfold State.ageEntries
  exact List.foldlRecOn _ _ (.of_slots rfl) fun t ht e _ => ht.trans (.of_rest (sameRest_expire t e))

theorem sendsNone_tick (s : State) : SendsNone s s.tick := by
  have counted : ∀ n, SendsNone s { s with divider := 0, tickCount := n, sup := s.sup.tick } := fun _ => .of_slots rfl
  exact (((counted _).trans (.of_rest (sameRest_forAll (fun p s => (localAt_tickBooth p s).rest) _))).trans
    (sendsNone_ite (sendsNone_toggleFlash _))).trans (sendsNone_ite (sendsNone_ageEntries _))

theorem sendsNone_arrearsExpiry (s : State) (serial : BitVec 32) :
    ∃ t, execArrearsExpiry serial s = .next t ∧ SendsNone s t := by
  refine ⟨_, rfl, sendsNone_live ?_⟩
  split
  · exact sendsNone_ite (.of_rest (sameRest_expire ..))
  · exact SendsNone.refl s

/-! ## Frame starts, frame ends and losses send nothing (R92, R93, R117, R142 to R149) -/

theorem sameRest_cutSlot (s : State) (t : Nat) (p : Position) : SameRest s (s.cutSlot t p) := by
  unfold State.cutSlot
  split
  · exact SameRest.refl s
  · dsimp only
    split
    · split
      · exact (sameRest_onSlot ..).trans (localAt_openRecord ..).rest
      all_goals exact sameRest_onSlot ..
    · split
      · exact (sameRest_onSlot ..).trans (sameRest_onSlot ..)
      · exact sameRest_onSlot ..

theorem sendsNone_cutFrame (s : State) (cut : Nat) : SendsNone s (s.cutFrame cut) := by
  unfold State.cutFrame
  refine sendsNone_ite ?_
  have closed : ∀ t : State, SendsNone t { t with port := { t.port with inProgress := false } } := fun t =>
    sendsNone_port t _
  exact (SendsNone.of_rest (sameRest_forAll (fun p s => sameRest_cutSlot s _ p) s)).trans (closed _)

theorem sendsNone_beginFrame (s : State) : SendsNone s s.beginFrame := .of_idle rfl

/-- At the entry to LOST the outputs stay or go to idle fill (R93, R144). -/
theorem sendsNone_enterLost (s : State) (cut : Nat) : SendsNone s (s.enterLost cut) := by
  have slots : (s.enterLost cut).port.downSlots = s.port.lose.downSlots := rfl
  unfold Port.lose at slots
  split at slots
  · exact .of_idle slots
  · exact .of_slots slots

theorem sendsNone_expireFrameTimer (s : State) (cut : Nat) : SendsNone s (s.expireFrameTimer cut) := by
  have held : SendsNone s { s with sup := { s.sup with frameTimer := some Config.frameTimeoutPeriods } } :=
    .of_slots rfl
  exact held.trans (sendsNone_ite (sendsNone_enterLost ..))

theorem sendsNone_frameTimeout (s : State) (cut : Nat) :
    ∃ t, execFrameTimeout cut s = .next t ∧ SendsNone s t := by
  refine ⟨_, rfl, sendsNone_live ?_⟩
  split
  · exact SendsNone.refl s
  · exact sendsNone_expireFrameTimer ..

theorem sendsNone_enterLongLost (s : State) : SendsNone s s.enterLongLost := by
  have stopped : SendsNone s { s with sup := { s.sup with highway := .longLost, lossTimer := none } } := .of_slots rfl
  exact stopped.trans
    (sendsNone_forAll (fun _ _ => sendsNone_ite (.of_rest (localAt_enterClearing ..).rest)) _)

theorem sameRest_lowerLock (p : Position) (s : State) : SameRest s (s.lowerLock p) := by
  unfold State.lowerLock
  dsimp only
  split
  · exact SameRest.refl s
  · split
    · exact (sameRest_onSlot ..).trans (sameRest_place ..)
    · exact sameRest_onSlot ..

theorem sendsNone_timeOut (p : Position) (s : State) : SendsNone s (s.timeOut p) :=
  sendsNone_ite (.of_rest (sameRest_declareFault ..))

theorem sendsNone_completeFrame (s : State) : SendsNone s s.completeFrame := by
  have moved : ∀ (t : State) sup, SendsNone t { t with sup := sup } := fun _ _ => .of_slots rfl
  have restored : ∀ r, SendsNone s (s.place r) := fun r => .of_rest (sameRest_place s r)
  unfold State.completeFrame
  split
  · exact SendsNone.refl s
  · exact (moved ..).trans (sendsNone_ite (sendsNone_enterLost ..))
  all_goals exact ((restored _).trans (moved ..)).trans (sendsNone_ite (sendsNone_enterLost ..))

theorem sendsNone_frameEnd (s : State) (trailer : TenBytes) :
    ∃ t, execFrameEnd trailer s = .next t ∧ SendsNone s t := by
  refine ⟨_, rfl, sendsNone_inFrame ?_⟩
  have ended : SendsNone s { s.reach 152 with
      port := { (s.reach 152).port with inProgress := false, downTrailer := some trailer } } :=
    (sendsNone_reach ..).trans (sendsNone_port ..)
  have counted : ∀ u : State, SendsNone u ((u.forAll State.lowerLock).forAll State.countFrame) := fun u =>
    .of_rest ((sameRest_forAll sameRest_lowerLock u).trans (sameRest_forAll (fun _ _ => sameRest_onSlot ..) _))
  exact ((ended.trans (counted _)).trans (sendsNone_forAll sendsNone_timeOut _)).trans (sendsNone_completeFrame _)

theorem sendsNone_beginTrailer (s : State) : SendsNone s s.beginTrailer := by
  unfold State.beginTrailer
  split <;> exact .of_slots rfl

theorem sendsNone_giveUpRecord (s : State) (sent : Nat) : SendsNone s (s.giveUpRecord sent) := by
  unfold State.giveUpRecord
  split <;> exact .of_slots rfl

/-- The bytes of the upstream trailer go to the row controller, and none to a reader (R103). -/
theorem sendsNone_trailer (s : State) (sent n : Nat) :
    SendsNone s ((((s.reach n).beginTrailer).giveUpRecord sent).emitTrailer sent) := by
  have emitted : ∀ t : State, SendsNone t (t.emitTrailer sent) := fun _ => .of_slots rfl
  exact (((sendsNone_reach ..).trans (sendsNone_beginTrailer _)).trans (sendsNone_giveUpRecord ..)).trans (emitted _)

/-! ## The line scan sends nothing (R129 to R134) -/

theorem sendsNone_loopEvent (s : State) (p : Position) (e : LineEvent) : SendsNone s (s.loopEvent p e) := by
  cases e with
  | first high => exact sendsNone_ite (.of_rest ((sameRest_onBooth ..).trans (localAt_checkResume ..).rest))
  | rise => exact SendsNone.refl s
  | fall => exact .of_rest (sameRest_lineFall ..)

theorem sendsNone_answerEvent (s : State) (p : Position) (e : LineEvent) : SendsNone s (s.answerEvent p e) := by
  cases e with
  | first high => exact sendsNone_ite (.of_rest ((sameRest_onBooth ..).trans (localAt_checkResume ..).rest))
  | rise => exact sendsNone_ite (.of_rest (localAt_answerRise ..).rest)
  | fall => exact .of_rest (sameRest_lineFall ..)

theorem sendsNone_deliver (s : State) (p : Position) (e : Option LineEvent) {act : State → LineEvent → State}
    (h : ∀ x, SendsNone s (act s x)) : SendsNone s (s.deliver p e act) := by
  unfold State.deliver
  split
  · exact SendsNone.refl s
  · split
    · exact SendsNone.refl s
    · exact h _

theorem sendsNone_scan (s : State) (scan : Scanner) : SendsNone s { s with scan := scan } := .of_slots rfl

theorem sendsNone_sampleLoop (s : State) (p : Position) (level : Bool) : SendsNone s (s.sampleLoop p level) := by
  unfold State.sampleLoop
  dsimp only
  exact (sendsNone_scan ..).trans (sendsNone_deliver _ p _ fun _ => sendsNone_loopEvent ..)

theorem sendsNone_sampleAnswer (s : State) (p : Position) (level : Bool) : SendsNone s (s.sampleAnswer p level) := by
  unfold State.sampleAnswer
  dsimp only
  exact (sendsNone_scan ..).trans (sendsNone_deliver _ p _ fun _ => sendsNone_answerEvent ..)

theorem sendsNone_sampleBooth (rows : Byte) (s : State) (p : Position) : SendsNone s (s.sampleBooth rows p) := by
  exact (sendsNone_sampleLoop ..).trans (sendsNone_sampleAnswer ..)

theorem sendsNone_sampleColumn (s : State) (rows : RowInputs) : SendsNone s (s.sampleColumn rows) :=
  List.foldlRecOn _ _ (.of_slots rfl) fun _ ht p _ => ht.trans (sendsNone_sampleBooth _ _ p)

theorem sendsNone_takeSample (s : State) : SendsNone s s.takeSample := by
  have drawn : SendsNone s { s with draws := s.draws + 1 } := .of_slots rfl
  unfold State.takeSample
  split
  · exact SendsNone.refl s
  · exact drawn.trans (sendsNone_sampleColumn ..)

theorem sendsNone_startDrive (s : State) : SendsNone s s.startDrive := .of_slots rfl

theorem sendsNone_scanStepStart (s : State) : ∃ t, execScanStepStart s = .next t ∧ SendsNone s t := by
  have started : ∀ (t : State) column, SendsNone t (t.startStep column) := fun _ _ => .of_slots rfl
  refine ⟨_, rfl, sendsNone_live ?_⟩
  split
  · exact SendsNone.refl s
  · exact (sendsNone_takeSample s).trans (started ..)
  · exact started ..

/-! ## Resets send nothing (R23, R89, R179) -/

theorem sendsNone_warmReset (s : State) (periods : Nat) : ∃ t, execWarmReset periods s = .next t ∧ SendsNone s t := by
  have warmed : ∀ t : State, SendsNone s t.warm := fun _ => .of_idle rfl
  refine ⟨_, rfl, ?_⟩
  split
  · unfold State.lowerLine
    split <;> exact .of_slots rfl
  · unfold State.resetPulse
    split_ifs
    · exact SendsNone.refl s
    · exact warmed s
    · exact warmed _
    · exact .of_slots rfl

theorem sendsNone_resetRelease (s : State) (strap : Bool) :
    ∃ t, execResetRelease strap s = .next t ∧ SendsNone s t := by
  refine ⟨_, rfl, ?_⟩
  split
  · dsimp only
    split <;> exact .of_slots rfl
  · exact SendsNone.refl s

/-! ## Commands that are no requests (R97) -/

/-- A command that no downstream slot spells sends nothing to a reader. -/
theorem exec_sendsNone (s : State) (c : Instr) (hc : encodeRequest c = none) :
    ∃ t, exec c s = .next t ∧ SendsNone s t := by
  cases c with
  | null | read | write | protectedWrite | lockedRead | unlock | unknownKind => exact nomatch hc
  | powerOnReset => exact ⟨_, rfl, .of_idle rfl⟩
  | warmReset periods => exact sendsNone_warmReset s periods
  | frameStart cut => exact ⟨_, rfl, sendsNone_live ((sendsNone_cutFrame ..).trans (sendsNone_beginFrame _))⟩
  | headerArrival frame minute flags table => exact sendsNone_headerArrival s frame minute flags table
  | restart => exact ⟨_, rfl, sendsNone_live (sendsNone_restartReports s)⟩
  | tariff band period charge rate => exact ⟨_, rfl, sendsNone_live (sendsNone_takeTariff ..)⟩
  | schedule slot minute period => exact ⟨_, rfl, sendsNone_live (sendsNone_takeSchedule ..)⟩
  | setting number value => exact ⟨_, rfl, sendsNone_live (sendsNone_takeSetting ..)⟩
  | position number mode => exact ⟨_, rfl, sendsNone_live (sendsNone_takePosition ..)⟩
  | absent | ready | data | accepted | busy | written | error | unknownStatus => exact ⟨_, rfl, sendsNone_reply ..⟩
  | frameEnd trailer => exact sendsNone_frameEnd s trailer
  | lockExpired p => exact ⟨_, rfl, sendsNone_live (sendsNone_ite (.of_rest (sameRest_lowerLock p s)))⟩
  | writeTimeout p => exact ⟨_, rfl, sendsNone_live (sendsNone_ite (.of_rest (sameRest_declareFault ..)))⟩
  | trailerRecord sent => exact ⟨_, rfl, sendsNone_live (sendsNone_ite (sendsNone_trailer ..))⟩
  | frameTimeout cut => exact sendsNone_frameTimeout s cut
  | longLost => exact ⟨_, rfl, sendsNone_live (sendsNone_ite (sendsNone_enterLongLost s))⟩
  | chargeTick => exact ⟨_, rfl, sendsNone_live (sendsNone_tick s)⟩
  | graceExpired p => exact ⟨_, rfl, sendsNone_live (sendsNone_ite (.of_rest (localAt_countGrace s p).rest))⟩
  | clearDownAssertEnd p => exact ⟨_, rfl, sendsNone_live (sendsNone_ite (.of_rest (localAt_moveTimer s p).rest))⟩
  | clearDownGapEnd p => exact ⟨_, rfl, sendsNone_live (sendsNone_ite (.of_rest (localAt_moveTimer s p).rest))⟩
  | flashStep => exact ⟨_, rfl, sendsNone_live (sendsNone_toggleFlash s)⟩
  | ageStep => exact ⟨_, rfl, sendsNone_live (sendsNone_ageEntries s)⟩
  | arrearsExpiry serial => exact sendsNone_arrearsExpiry s serial
  | scanStepStart => exact sendsNone_scanStepStart s
  | senseSample rows => exact ⟨_, rfl, sendsNone_live (sendsNone_ite (sendsNone_sampleColumn ..))⟩
  | driveSegment =>
    exact ⟨_, rfl, sendsNone_live (sendsNone_ite ((sendsNone_takeSample s).trans (sendsNone_startDrive _)))⟩
  | resetRelease strap => exact sendsNone_resetRelease s strap

/-! ## Requests send one slot (R90, R105 to R116) -/

theorem forwards_arrive {P : Position → SlotBytes → Prop} {s : State} {p : Position} {f : State → State}
    (h : Forwards P (s.reach (requestIn p)) (f (s.reach (requestIn p)))) : Forwards P s (s.arrive p f) :=
  forwards_inFrame (((sendsNone_reach ..).forwards P).trans h)

theorem forwards_send {P : Position → SlotBytes → Prop} {p : Position} {bytes : SlotBytes} (h : P p bytes) (s : State)
    (r : SlotRecord) : Forwards P s (s.send p r bytes) := by
  refine ⟨fun q w hw => ?_⟩
  have filled : (s.send p r bytes).port.downSlots[q] = if q = p then some bytes else s.port.downSlots[q] := by
    simp only [State.send, State.onSlot_eq, State.setSlot_port, Fin.getElem_fin, Vector.getElem_set, Fin.ext_iff,
      eq_comm]
  rw [filled] at hw
  split at hw
  next hq =>
    obtain rfl := Option.some.inj hw
    exact .inr (hq ▸ h)
  next => exact .inl hw

section
variable {P : Position → SlotBytes → Prop} {p : Position} (hnull : P p (requestBytes 0 0 0))
include hnull

theorem forwards_sendNull (s : State) (t : Treatment) : Forwards P s (s.sendNull p t) := forwards_send hnull ..

theorem forwards_kill (s : State) (cause : RefuseCause) (attempted : Nat) :
    Forwards P s (s.kill p cause attempted) :=
  (forwards_sendNull hnull s _).trans ((SendsNone.of_rest (sameRest_place ..)).forwards P)

/-- A NULL carries the held request, a request of the order of needs, or nothing (R48, R106, R119). -/
theorem forwards_decideNull (s : State) (hheld : ∀ h, (s.slot p).held = some h → P p h.request.bytes)
    (hneed : ∀ q, s.need p = some q → P p q.bytes) : Forwards P s (s.decideNull p) := by
  have inserted : ∀ (q : OwnRequest) first, P p q.bytes → Forwards P s (s.insert p q first) := by
    intro q first hq
    unfold State.insert
    dsimp only
    split
    · exact ((SendsNone.of_rest (sameRest_onSlot ..)).forwards P).trans (forwards_send hq ..)
    · exact forwards_send hq ..
  unfold State.decideNull
  split
  · split
    next h hh => exact inserted _ _ (hheld h hh)
    next =>
      split
      next q hq => exact inserted _ _ (hneed q hq)
      next => exact forwards_sendNull hnull ..
  · exact forwards_sendNull hnull ..

/-- A row-controller write goes out as it is decided only where its check finds nothing, and as NULL otherwise (R107,
R112). -/
theorem forwards_vetted (s : State) (check : Option RefuseCause) (a : WordAddr) (v c : Word) (t : Treatment)
    (hpass : check = none → P p (requestBytes 2 a (v ++ c))) : Forwards P s (s.vetted p check a v c t) := by
  unfold State.vetted
  split
  · exact forwards_sendNull hnull ..
  · split
    · exact forwards_kill hnull ..
    · have hsent := hpass rfl
      unfold State.passWrite
      dsimp only
      split
      · exact ((SendsNone.of_rest (sameRest_onBooth ..)).forwards P).trans (forwards_send hsent ..)
      · exact forwards_send hsent ..

end

/-! ## What the checks leave of a write of word 4 (R51, R109, R110) -/

/-- The write that the order of needs asks for lowers the balance (R51). -/
theorem need_write_le {s : State} {p : Position} {v : Nat} (h : s.need p = some (.write v)) :
    ∃ n, (s.booth p).known = some n ∧ v ≤ n := by
  unfold State.need at h
  dsimp only at h
  split at h
  · exact nomatch h
  · split at h
    · exact nomatch h
    · split at h
      · exact nomatch h
      next n hn =>
        split at h
        · obtain rfl : debitValue (s.booth p).owed n = v := by simpa using h
          exact ⟨n, hn, Nat.sub_le ..⟩
        · exact nomatch h

/-- A plain write of word 4 that passes its checks does not raise the known balance (R109). -/
theorem le_known_of_vetWrite {s : State} {p : Position} {v : Nat} (h : s.vetWrite p 4 v = none) :
    ∃ n, (s.booth p).known = some n ∧ v ≤ n := by
  have passed : s.vetBalance p v = none := h
  unfold State.vetBalance at passed
  dsimp only at passed
  split at passed
  · exact nomatch passed
  · split at passed
    · exact nomatch passed
    next n hn =>
      split at passed
      · exact nomatch passed
      next hle => exact ⟨n, hn, Nat.le_of_not_lt hle⟩

/-- A booth that is not engaged has no call, no owed units and no pending resolution (R110). -/
theorem Booth.engaged_eq_false {b : Booth} : b.engaged = false ↔
    (b.state = .vacant ∨ b.state = .card ∨ b.state = .fault) ∧ b.owed = 0 ∧ b.pendingRes = none := by
  cases hstate : b.state <;> simp [Booth.engaged, hstate]

/-- A protected write of word 4 that passes its checks has a matching complement, at a booth out of FAULT that is not
engaged (R110). -/
theorem vetProtected_balance {s : State} {p : Position} {v c : Nat} (h : s.vetProtected p 4 v c = none) :
    c = 65535 - v ∧ (s.booth p).state ≠ .fault ∧ (s.booth p).engaged = false := by
  unfold State.vetProtected at h
  split_ifs at h with hmatch hissuer hfault hengaged
  exact ⟨not_not.mp hmatch, by simpa using hfault, by simpa using hengaged⟩

/-! ## The bound of R114 on the bytes sent (R114, R175) -/

/-- Two words joined from parts of the same widths are equal only part by part. -/
theorem append_inj {m n : Nat} {a a' : BitVec m} {b b' : BitVec n} (h : a ++ b = a' ++ b') : a = a' ∧ b = b' := by
  have left := congrArg (BitVec.extractLsb' n m) h
  have right := congrArg (BitVec.extractLsb' 0 n) h
  simp only [BitVec.extractLsb'_append_eq_left, BitVec.extractLsb'_append_eq_right] at left right
  exact ⟨left, right⟩

/-- The bytes of a WRITE of word 4 fix the kind, the word address and what follows (R175). -/
theorem requestBytes_eq_balanceWrite {kind : BitVec 4} {a : WordAddr} {rest : BitVec 32} {v w : Word}
    (h : requestBytes kind a rest = (0x24 : Byte) ++ v ++ w) : kind = 2 ∧ a = 4 ∧ rest = v ++ w := by
  have regrouped : (0x24 : Byte) ++ v ++ w = ((2 : BitVec 4) ++ (4 : BitVec 4)) ++ (v ++ w) := BitVec.append_assoc
  obtain ⟨hhead, hrest⟩ := append_inj (h.trans regrouped)
  obtain ⟨hkind, ha⟩ := append_inj hhead
  exact ⟨hkind, ha, hrest⟩

/-- The bytes that `c` sends to the reader of `p` hold R114: if they are a WRITE of word 4, its value is at most the known
balance, or `c` is a PROTECTED WRITE with a matching complement at a booth with no call, no owed units and no pending
resolution. -/
def BoundedWrite (s : State) (c : Instr) (p : Position) (bytes : SlotBytes) : Prop :=
  ∀ v w : Word, bytes = (0x24 : Byte) ++ v ++ w →
    (∃ n, (s.booth p).known = some n ∧ v.toNat ≤ n) ∨
    (∃ x : Word, c = .protectedWrite p 4 v x ∧ x.toNat = 65535 - v.toNat ∧
      ((s.booth p).state = .vacant ∨ (s.booth p).state = .card) ∧ (s.booth p).owed = 0 ∧
      (s.booth p).pendingRes = none)

section
variable {s : State} {c : Instr} {p : Position}

theorem boundedWrite_of_kind_ne {kind : BitVec 4} (h : kind ≠ 2) (a : WordAddr) (rest : BitVec 32) :
    BoundedWrite s c p (requestBytes kind a rest) := by
  intro v w heq
  obtain ⟨hkind, _, _⟩ := requestBytes_eq_balanceWrite heq
  exact absurd hkind h

theorem boundedWrite_null : BoundedWrite s c p (requestBytes 0 0 0) := boundedWrite_of_kind_ne (by decide) _ _

/-- An own request is bounded once the value of an own WRITE is at most the known balance. -/
theorem boundedWrite_own {q : OwnRequest} (h : ∀ v, q = .write v → ∃ n, (s.booth p).known = some n ∧ v ≤ n) :
    BoundedWrite s c p q.bytes := by
  cases q with
  | read a => exact boundedWrite_of_kind_ne (by decide) _ _
  | write u =>
    intro v w heq
    obtain ⟨_, _, hrest⟩ := requestBytes_eq_balanceWrite heq
    obtain ⟨rfl, _⟩ := append_inj hrest
    obtain ⟨n, hknown, hle⟩ := h u rfl
    refine .inl ⟨n, hknown, ?_⟩
    calc (BitVec.ofNat 16 u).toNat = u % 65536 := BitVec.toNat_ofNat ..
      _ ≤ u := Nat.mod_le ..
      _ ≤ n := hle

/-- A held own WRITE lowers the known balance of its booth (R51, R55). -/
theorem boundedWrite_held {h : Held} {k : Nat} (hs : h.sound (s.booth p) k) : BoundedWrite s c p h.request.bytes :=
  boundedWrite_own fun v hv => by
    obtain ⟨n, hknown, hlt, _⟩ := hs v hv
    exact ⟨n, hknown, hlt.le⟩

theorem boundedWrite_write {a : WordAddr} {v x : Word} (h : s.vetWrite p a v.toNat = none) :
    BoundedWrite s c p (requestBytes 2 a (v ++ x)) := by
  intro u w heq
  obtain ⟨_, rfl, hrest⟩ := requestBytes_eq_balanceWrite heq
  obtain ⟨rfl, _⟩ := append_inj hrest
  exact .inl (le_known_of_vetWrite h)

theorem boundedWrite_protectedWrite {a : WordAddr} {v x : Word} (h : s.vetProtected p a v.toNat x.toNat = none) :
    BoundedWrite s (.protectedWrite p a v x) p (requestBytes 2 a (v ++ (0 : Word))) := by
  intro u w heq
  obtain ⟨_, rfl, hrest⟩ := requestBytes_eq_balanceWrite heq
  obtain ⟨rfl, _⟩ := append_inj hrest
  obtain ⟨hmatch, hfault, hfree⟩ := vetProtected_balance h
  obtain ⟨hstate, howed, hpending⟩ := Booth.engaged_eq_false.mp hfree
  refine .inr ⟨x, rfl, hmatch, ?_, howed, hpending⟩
  simpa [hfault] using hstate

end

/-! ## Every command holds R114 -/

theorem exec_forwards_bounded {s : State} (hs : s.Accounted) (c : Instr) :
    ∃ t, exec c s = .next t ∧ Forwards (BoundedWrite s c) s t := by
  by_cases hc : encodeRequest c = none
  · obtain ⟨t, ht, quiet⟩ := exec_sendsNone s c hc
    exact ⟨t, ht, quiet.forwards _⟩
  cases c with
  | null p =>
    refine ⟨_, rfl, forwards_arrive (forwards_decideNull boundedWrite_null _ ?_ ?_)⟩
    · exact fun h hh => boundedWrite_held ((hs.sound p).held h hh)
    · exact fun q hq => boundedWrite_own fun v hv => need_write_le (s := s) (hv ▸ hq)
  | read p a rest => exact ⟨_, rfl, forwards_arrive (forwards_send (boundedWrite_of_kind_ne (by decide) _ _) ..)⟩
  | write p a v x =>
    exact ⟨_, rfl, forwards_arrive (forwards_vetted boundedWrite_null _ _ _ _ _ _ boundedWrite_write)⟩
  | protectedWrite p a v x =>
    exact ⟨_, rfl, forwards_arrive (forwards_vetted boundedWrite_null _ _ _ _ _ _ boundedWrite_protectedWrite)⟩
  | lockedRead p a rest =>
    exact ⟨_, rfl, forwards_arrive (((SendsNone.of_rest (sameRest_onSlot ..)).forwards _).trans
      (forwards_send (boundedWrite_of_kind_ne (by decide) _ _) ..))⟩
  | unlock p =>
    exact ⟨_, rfl, forwards_arrive (((SendsNone.of_rest (sameRest_onSlot ..)).forwards _).trans
      (forwards_sendNull boundedWrite_null ..))⟩
  | unknownKind p code => exact ⟨_, rfl, forwards_arrive (forwards_kill boundedWrite_null ..)⟩
  | _ => exact absurd rfl hc

/-- Settles O13: a slot that changed and is filled was sent by this command, and every slot sent is bounded. -/
theorem forwardedBalanceWritesAreBounded : Obligations.ForwardedBalanceWritesAreBounded := by
  intro s t c p v w hs hstep hslot hchanged
  obtain ⟨u, hu, sent⟩ := exec_forwards_bounded hs c
  obtain rfl := Host.Outcome.next.inj (hu.symm.trans hstep)
  rcases sent.slot p _ hslot with hsame | hbounded
  · exact absurd (hsame.trans hslot.symm) hchanged
  · exact hbounded v w rfl

end Sys2Proof.Machine

/-! Every step keeps ranges (R1, R158), keeps modes and states in agreement (R5, R42), and leaves the queue of commands.

`State.Fit r m l` carries the two invariants at once: the ranges where `r` holds, and the modes where `m` holds, so that
each operation is looked at once for both. A range may fail for the counts that the list `l` names: those of the things
that have fallen due in a period of the clock and have not happened yet. -/

namespace Sys2Proof.Machine

/-- Nothing has to hold of a value that is not there. -/
theorem forall_none {α : Type} {P : α → Prop} : ∀ x, none = some x → P x := nofun

/-! ## The invariants, booth by booth -/

/-- The mode and the state of one booth agree (R5, R42). -/
structure Booth.Agrees (b : Booth) : Prop where
  freeState : b.mode = .free → b.state = .vacant ∨ b.state = .card ∨ b.state = .fault
  freeNoCall : b.mode = .free → b.callUp = false ∧ b.rate = none
  restNoCall : b.state = .vacant ∨ b.state = .card → b.callUp = false ∧ b.rate = none

theorem modesAgree_iff {s : State} : s.ModesAgree ↔ ∀ p, (s.booth p).Agrees :=
  ⟨fun h p => ⟨h.freeState p, h.freeNoCall p, h.restNoCall p⟩,
    fun h => ⟨fun p => (h p).freeState, fun p => (h p).freeNoCall, fun p => (h p).restNoCall⟩⟩

/-- A booth written with its mode, state, call and rate left alone agrees as before. -/
theorem Booth.Agrees.of_same {b b' : Booth} (h : b.Agrees) (hmode : b'.mode = b.mode := by rfl)
    (hstate : b'.state = b.state := by rfl) (hcall : b'.callUp = b.callUp := by rfl)
    (hrate : b'.rate = b.rate := by rfl) : b'.Agrees :=
  ⟨by rw [hmode, hstate]; exact h.freeState, by rw [hmode, hcall, hrate]; exact h.freeNoCall,
    by rw [hstate, hcall, hrate]; exact h.restNoCall⟩

/-- A CHARGED booth that is neither in VACANT nor in CARD may have a call and a rate. -/
theorem Booth.agrees_of_charged {b : Booth} (hmode : b.mode = .charged) (hv : b.state ≠ .vacant) (hc : b.state ≠ .card) :
    b.Agrees :=
  have notFree : b.mode ≠ .free := by simp [hmode]
  { freeState := fun h => absurd h notFree
    freeNoCall := fun h => absurd h notFree
    restNoCall := fun h => absurd h (by simp [hv, hc]) }

/-- A booth with no call and no rate agrees in VACANT, CARD and FAULT, whatever its mode. -/
theorem Booth.agrees_of_noCall {b : Booth} (hcall : b.callUp = false) (hrate : b.rate = none)
    (hstate : b.state = .vacant ∨ b.state = .card ∨ b.state = .fault) : b.Agrees :=
  ⟨fun _ => hstate, fun _ => ⟨hcall, hrate⟩, fun _ => ⟨hcall, hrate⟩⟩

/-- A call that ends leaves the booth in agreement. -/
theorem Booth.Agrees.endCall {b b' : Booth} (h : b.Agrees) (hcall : b'.callUp = false := by rfl)
    (hrate : b'.rate = none := by rfl) (hmode : b'.mode = b.mode := by rfl) (hstate : b'.state = b.state := by rfl) :
    b'.Agrees :=
  ⟨by rw [hmode, hstate]; exact h.freeState, fun _ => ⟨hcall, hrate⟩, fun _ => ⟨hcall, hrate⟩⟩

/-- A booth with a call or a grace, a clear-down or an OPEN call in progress is CHARGED (R5). -/
theorem Booth.Agrees.charged {b : Booth} (h : b.Agrees) (hv : b.state ≠ .vacant) (hc : b.state ≠ .card)
    (hf : b.state ≠ .fault) : b.mode = .charged := by
  cases hm : b.mode with
  | charged => rfl
  | free => exact absurd (h.freeState hm) (by simp [hv, hc, hf])

/-- The list holds at most 32 entries, no serial twice, and each entry in its range (R67, R68). -/
structure ListInRange (l : List ArrearsEntry) : Prop where
  length : l.length ≤ 32
  distinct : (l.map ArrearsEntry.serial).Nodup
  entries : ∀ e ∈ l, e.InRange

/-- The counts of the clock in their ranges, those of the things named in `l` apart (R24, R25, R129, R132, R141, R179). -/
structure ClocksInRange (l : List Due) (divider tickCount : Nat) (sup : Supervisor) (scan : Scanner)
    (powerUp : Option Nat) : Prop where
  divider : .tick ∉ l → divider < 204800
  tickCount : tickCount < 600
  frameTimer : ∀ n, sup.frameTimer = some n → n ≤ 24576
  lossTimer : ∀ n, sup.lossTimer = some n → n ≤ 4096000
  lossDuration : sup.lossDuration ≤ 65535
  stepSetting : scan.segment ≠ .off → 1 ≤ scan.stepSetting ∧ scan.stepSetting ≤ 64
  segment : .segment ∉ l → scan.segment ≠ .off → scan.elapsed ≤ scan.stepSetting * 128 ∧
    (scan.elapsed = scan.stepSetting * 128 → scan.segment = .sense ∧ scan.sampled = true)
  loopRun : ∀ p : Position, scan.loop[p].runCount ≤ 7
  answerRun : ∀ p : Position, scan.answer[p].runCount ≤ 7
  powerUp : ∀ n, powerUp = some n → n ≤ 4096

/-- The ranges of the part, the counts of the things named in `l` apart. -/
structure State.Ranged (l : List Due) (s : State) : Prop where
  tables : s.TablesInRange
  booths : ∀ p, (s.booth p).InRange
  slots : ∀ p, (s.slot p).InRange
  arrears : ListInRange s.arrears
  reports : s.reports.length ≤ 32
  lost : s.lost ≤ 255
  clocks : ClocksInRange l s.divider s.tickCount s.sup s.scan s.powerUp

theorem ranged_nil_iff {s : State} : s.Ranged [] ↔ s.InRange := by
  constructor
  · rintro ⟨tables, booths, slots, ⟨len, distinct, entries⟩, reports, lost, clocks⟩
    refine ⟨tables, booths, slots, len, distinct, entries, reports, lost, ?_⟩
    refine ⟨clocks.divider nofun, clocks.tickCount, clocks.frameTimer, clocks.lossTimer, clocks.lossDuration,
      fun h => ?_, clocks.loopRun, clocks.answerRun, clocks.powerUp⟩
    exact ⟨(clocks.stepSetting h).1, (clocks.stepSetting h).2, clocks.segment nofun h⟩
  · rintro ⟨tables, booths, slots, len, distinct, entries, reports, lost, timers⟩
    refine ⟨tables, booths, slots, ⟨len, distinct, entries⟩, reports, lost, ?_⟩
    refine ⟨fun _ => timers.divider, timers.tickCount, timers.frameTimer, timers.lossTimer, timers.lossDuration,
      fun h => ?_, fun _ h => ?_, timers.loopRun, timers.answerRun, timers.powerUp⟩
    · exact ⟨(timers.segment h).1, (timers.segment h).2.1⟩
    · exact (timers.segment h).2.2

theorem TablesInRange.congr {s t : State} (h : s.TablesInRange) (hs : SameTables s t) : t.TablesInRange := by
  obtain ⟨tariff, schedule, settings, minute⟩ := hs
  exact ⟨settings ▸ h.settings, tariff ▸ h.tariff, schedule ▸ h.schedule, minute ▸ h.minute⟩

/-- Ranges where nothing but contexts, list, reports and account may have changed. -/
theorem State.Ranged.of_rest {l : List Due} {s t : State} (h : s.Ranged l) (rest : SameRest s t)
    (booths : ∀ p, (t.booth p).InRange) (slots : ∀ p, (t.slot p).InRange) (arrears : ListInRange t.arrears)
    (reports : t.reports.length ≤ 32) (lost : t.lost ≤ 255) : t.Ranged l := by
  obtain ⟨tables, ⟨divider, tickCount, scan, sup, ⟨_, powerUp, _, _⟩, _, _⟩, _⟩ := rest
  refine ⟨TablesInRange.congr h.tables tables, booths, slots, arrears, reports, lost, ?_⟩
  rw [divider, tickCount, scan, sup, powerUp]
  exact h.clocks

/-- The ranges (where `r`) and the agreement of modes and states (where `m`). -/
structure State.Fit (r m : Prop) (l : List Due) (s : State) : Prop where
  ranged : r → s.Ranged l
  modes : m → ∀ p, (s.booth p).Agrees

variable {r m : Prop} {l : List Due} {s t : State}

theorem State.Fit.boothRange (h : s.Fit r m l) (hr : r) (p : Position) : (s.booth p).InRange := (h.ranged hr).booths p

theorem State.Fit.slotRange (h : s.Fit r m l) (hr : r) (p : Position) : (s.slot p).InRange := (h.ranged hr).slots p

theorem State.Fit.settings (h : s.Fit r m l) (hr : r) : s.settings.InRange := (h.ranged hr).tables.settings

/-- An operation that changes nothing that the invariants speak of. -/
theorem State.Fit.of_same (h : s.Fit r m l) (rest : SameRest s t := by exact SameRest.refl s)
    (booths : t.booths = s.booths := by rfl) (slots : t.slots = s.slots := by rfl)
    (arrears : t.arrears = s.arrears := by rfl) (reports : t.reports = s.reports := by rfl)
    (lost : t.lost = s.lost := by rfl) : t.Fit r m l where
  ranged hr := by
    have hs := h.ranged hr
    refine hs.of_rest rest (fun p => ?_) (fun p => ?_) (arrears ▸ hs.arrears) (reports ▸ hs.reports) (lost ▸ hs.lost)
    · rw [State.booth, booths]
      exact hs.booths p
    · rw [State.slot, slots]
      exact hs.slots p
  modes hm p := by
    rw [State.booth, booths]
    exact h.modes hm p

theorem State.Fit.ite {c : Prop} [Decidable c] (ht : c → t.Fit r m l) (hs : ¬ c → s.Fit r m l) :
    (if c then t else s).Fit r m l := by
  split
  next hc => exact ht hc
  next hc => exact hs hc

/-! ## Plain updates -/

theorem State.Fit.setBooth {b : Booth} {p : Position} (h : s.Fit r m l) (hr : r → b.InRange) (hm : m → b.Agrees) :
    (s.setBooth p b).Fit r m l where
  ranged hr' := by
    have hs := h.ranged hr'
    refine hs.of_rest (sameRest_setBooth ..) (fun q => ?_) hs.slots hs.arrears hs.reports hs.lost
    rw [State.booth_setBooth]
    split
    · exact hr hr'
    · exact hs.booths q
  modes hm' q := by
    rw [State.booth_setBooth]
    split
    · exact hm hm'
    · exact h.modes hm' q

theorem State.Fit.onBooth {f : Booth → Booth} {p : Position} (h : s.Fit r m l)
    (hr : r → (s.booth p).InRange → (f (s.booth p)).InRange)
    (hm : m → (s.booth p).Agrees → (f (s.booth p)).Agrees := by exact fun _ h => h.of_same) :
    (s.onBooth p f).Fit r m l :=
  h.setBooth (fun hr' => hr hr' (h.boothRange hr' p)) fun hm' => hm hm' (h.modes hm' p)

theorem State.Fit.setSlot {c : Intercept} {p : Position} (h : s.Fit r m l) (hr : r → c.InRange) :
    (s.setSlot p c).Fit r m l where
  ranged hr' := by
    have hs := h.ranged hr'
    refine hs.of_rest (sameRest_setSlot ..) hs.booths (fun q => ?_) hs.arrears hs.reports hs.lost
    rw [State.slot_setSlot]
    split
    · exact hr hr'
    · exact hs.slots q
  modes := h.modes

theorem State.Fit.onSlot {f : Intercept → Intercept} {p : Position} (h : s.Fit r m l)
    (hr : r → (s.slot p).InRange → (f (s.slot p)).InRange) : (s.onSlot p f).Fit r m l :=
  h.setSlot fun hr' => hr hr' (h.slotRange hr' p)

theorem State.Fit.setArrears {k : List ArrearsEntry} (h : s.Fit r m l) (hk : r → ListInRange k) :
    { s with arrears := k }.Fit r m l where
  ranged hr :=
    have hs := h.ranged hr
    hs.of_rest (sameRest_arrears ..) hs.booths hs.slots (hk hr) hs.reports hs.lost
  modes := h.modes

theorem length_place_le (h : s.reports.length ≤ 32) (x : Report) : (s.place x).reports.length ≤ 32 := by
  unfold State.place
  split
  · simpa using by omega
  · exact h

theorem lost_place_le (h : s.lost ≤ 255) (x : Report) : (s.place x).lost ≤ 255 := by
  unfold State.place
  split
  · exact h
  · exact min_le_left ..

theorem State.Fit.place (h : s.Fit r m l) (x : Report) : (s.place x).Fit r m l where
  ranged hr := by
    have hs := h.ranged hr
    exact hs.of_rest (sameRest_place ..) (by simpa using hs.booths) (by simpa using hs.slots) (by simpa using hs.arrears)
      (length_place_le hs.reports x) (lost_place_le hs.lost x)
  modes := by simpa using h.modes

theorem State.Fit.placeIf (h : s.Fit r m l) (c : Bool) (x : Report) : (s.placeIf c x).Fit r m l :=
  .ite (fun _ => h.place x) fun _ => h

theorem State.Fit.addAccrued (h : s.Fit r m l) (n : Nat) : (s.addAccrued n).Fit r m l := h.of_same
theorem State.Fit.addDebited (h : s.Fit r m l) (n : Nat) : (s.addDebited n).Fit r m l := h.of_same
theorem State.Fit.addDropped (h : s.Fit r m l) (n : Nat) : (s.addDropped n).Fit r m l := h.of_same

theorem State.Fit.dropUnits (h : s.Fit r m l) (p : Position) (n : Nat) (cause : DropCause) :
    (s.dropUnits p n cause).Fit r m l := (h.place _).addDropped n

theorem State.Fit.dropNoSerial (h : s.Fit r m l) (p : Position) (n : Nat) : (s.dropNoSerial p n).Fit r m l :=
  .ite (fun _ => h.dropUnits ..) fun _ => (h.dropUnits ..).dropUnits ..

theorem State.Fit.dropEntry (h : s.Fit r m l) (e : ArrearsEntry) (cause : EntryDropCause) :
    (s.dropEntry e cause).Fit r m l := ((h.place _).placeIf _ _).addDropped _

/-! ## Credit, W and clear-down (R3, R12 to R15, R40) -/

/-- The full grace time is in the range of the grace countdown (R12, R158). -/
theorem graceTicks_le (h : s.settings.InRange) : s.graceTicks ≤ 600 := by
  have hle := h.graceTime
  simp only [State.graceTicks, Config.ticksPerSecond]
  omega

theorem State.Fit.enterGrace {p : Position} (h : s.Fit r m l) (hm : m → (s.booth p).mode = .charged) :
    (s.enterGrace p).Fit r m l :=
  h.onBooth (fun hr hb => { hb with grace := graceTicks_le (h.settings hr) })
    fun hm' _ => Booth.agrees_of_charged (hm hm') (by simp) (by simp)

/-- A booth in CALL or GRACE is CHARGED. -/
theorem State.Fit.charged {p : Position} (h : s.Fit r m l) (hs : (s.booth p).state = .call ∨ (s.booth p).state = .grace)
    (hm : m) : (s.booth p).mode = .charged := by
  apply (h.modes hm p).charged <;> rcases hs with hs | hs <;> simp [hs]

theorem State.Fit.evaluate (h : s.Fit r m l) (p : Position) : (s.evaluate p).Fit r m l := by
  rcases evaluate_cases s p with he | ⟨he, hcall, -⟩ | ⟨he, hgrace, -⟩ <;> rw [he]
  · exact h
  · exact h.enterGrace (h.charged (.inl hcall))
  · exact h.setBooth (fun hr => { h.boothRange hr p with grace := Nat.zero_le _ })
      fun hm => Booth.agrees_of_charged (h.charged (.inr hgrace) hm) (by simp) (by simp)

/-- A clear-down timer started in phase ASSERT is in range (R16, R158). -/
theorem hold_inRange (h : s.settings.InRange) : ∀ x, some (ClearDown.assert s.settings.clearDownHold) = some x → x.inRange := by
  rintro _ ⟨⟩
  exact h.clearDownHold

/-- A booth that goes to CLEARING in the write that starts its call. -/
theorem State.Fit.startClearing {p : Position} {b : Booth} (h : s.Fit r m l) (cause : ClearCause) (hr : r → b.InRange)
    (hm : m → b.mode = .charged) : ((s.setBooth p b).enterClearing p cause).Fit r m l := by
  have written : (s.setBooth p b).enterClearing p cause = (s.setBooth p { b with
      state := .clearing, grace := 0, timer := some (.assert s.settings.clearDownHold) }).place (.clearDown p cause) := by
    simp [State.enterClearing]
  rw [written]
  refine State.Fit.place (h.setBooth (fun hr' => ?_) fun hm' => ?_) _
  · exact { hr hr' with grace := Nat.zero_le _, timer := hold_inRange (h.settings hr') }
  · exact Booth.agrees_of_charged (hm hm') (by simp) (by simp)

theorem State.Fit.enterClearing {p : Position} (h : s.Fit r m l) (cause : ClearCause)
    (hm : m → (s.booth p).mode = .charged) : (s.enterClearing p cause).Fit r m l := by
  have hclear := h.startClearing (p := p) cause (fun hr => h.boothRange hr p) hm
  rwa [State.setBooth_booth] at hclear

theorem State.Fit.clearSaturated (h : s.Fit r m l) (p : Position) : (s.clearSaturated p).Fit r m l :=
  .ite (fun hs => h.enterClearing _ (h.charged hs)) fun _ => h

theorem State.Fit.addOwed (h : s.Fit r m l) (p : Position) (n : Nat) : (s.addOwed p n).Fit r m l := by
  unfold State.addOwed
  dsimp only
  split
  next hle => exact h.onBooth fun _ hb => { hb with owed := hle }
  next => exact (h.onBooth fun _ hb => { hb with owed := Nat.le_refl _ }).dropUnits ..

theorem State.Fit.charge (h : s.Fit r m l) (p : Position) (n : Nat) : (s.charge p n).Fit r m l :=
  .ite (fun _ => (h.addOwed ..).clearSaturated _) fun _ => h.addOwed ..

/-! ## The known balance and the pending resolution (R2, R62) -/

theorem State.Fit.settlePending (h : s.Fit r m l) (p : Position) : (s.settlePending p).Fit r m l := by
  unfold State.settlePending
  split
  · exact (((h.onBooth fun _ hb => { hb with pendingRes := forall_none }).addDebited _).charge ..).evaluate _
  · exact h

theorem State.Fit.takePair {q : Pair} (h : s.Fit r m l) (p : Position) (hq : r → q.InRange) :
    (s.takePair p q).Fit r m l := by
  unfold State.takePair
  split
  · exact (h.onBooth fun hr hb => { hb with pendingRes := by rintro _ ⟨⟩; exact hq hr }).settlePending _
  · exact h.dropUnits ..

/-- A held request that goes leaves the context in range. -/
theorem Intercept.InRange.noHeld {c : Intercept} (h : c.InRange) : { c with held := none }.InRange :=
  { h with tries := forall_none, heldValue := fun _ _ h => nomatch h }

/-- A record that goes leaves the context in range. -/
theorem Intercept.InRange.noInFlight {c : Intercept} (h : c.InRange) : { c with inFlight := none }.InRange :=
  { h with inFlight := forall_none }

theorem State.Fit.dropHeld (h : s.Fit r m l) (p : Position) : (s.dropHeld p).Fit r m l :=
  h.onSlot fun _ hc => hc.noHeld

theorem State.Fit.dropHeldRead (h : s.Fit r m l) (p : Position) (a : WordAddr) : (s.dropHeldRead p a).Fit r m l := by
  refine h.onSlot fun _ hc => ?_
  split
  · exact hc.noHeld
  · exact hc

theorem State.Fit.dropHeldWrite (h : s.Fit r m l) (p : Position) : (s.dropHeldWrite p).Fit r m l := by
  refine h.onSlot fun _ hc => ?_
  split
  · exact hc.noHeld
  · exact hc

theorem State.Fit.setKnown {n : Nat} (h : s.Fit r m l) (p : Position) (hn : r → n ≤ 65535) :
    (s.setKnown p n).Fit r m l := by
  refine .ite (fun _ => h) fun _ => ?_
  exact (((h.onBooth fun hr hb => { hb with known := by rintro _ ⟨⟩; exact hn hr }).dropHeldWrite p).settlePending
    p).evaluate p

theorem State.Fit.learnBalance {n : Nat} (h : s.Fit r m l) (p : Position) (own : Bool) (hn : r → n ≤ 65535) :
    (s.learnBalance p n own).Fit r m l :=
  .ite (fun _ => h.setKnown p hn) fun _ => (h.dropHeldRead ..).setKnown p hn

/-! ## The Arrears List (R67 to R81) -/

/-- Units, serial and pair that may leave a booth: in the ranges of an entry (R67). -/
structure OwedInRange (serial : Option Nat) (u : Nat) (pair : Option Pair) : Prop where
  serial : ∀ n, serial = some n → n < 4294967296
  units : u ≤ 65535
  pair : ∀ q, pair = some q → q.InRange

theorem ListInRange.append {k j : List ArrearsEntry} (hk : ListInRange k) (hj : j.Sublist k) (hlen : j.length < 32)
    {e : ArrearsEntry} (he : e.InRange) (hd : ((j ++ [e]).map ArrearsEntry.serial).Nodup) : ListInRange (j ++ [e]) where
  length := by simpa using hlen
  distinct := hd
  entries x hx := by
    rcases List.mem_append.mp hx with hx | hx
    · exact hk.entries x (hj.subset hx)
    · rw [List.mem_singleton.mp hx]
      exact he

/-- Taking the entry for a listed serial off the list makes it shorter (R68). -/
theorem length_withoutEntry_lt {k : List ArrearsEntry} {n : Nat} {e : ArrearsEntry} (h : findEntry k n = some e) :
    (withoutEntry k n).length < k.length := by
  refine List.length_filter_lt_length_iff_exists.mpr ⟨e, List.mem_of_find?_eq_some h, ?_⟩
  simpa using List.find?_some h

/-- A merge or a new entry leaves the list in range (R67, R68, R73 to R75). -/
theorem openEntry_inRange {k : List ArrearsEntry} (hk : ListInRange k) (q : Position) {serial u : Nat} {pair : Option Pair}
    (h : OwedInRange (some serial) u pair) : ListInRange (openEntry k q serial u pair).entries := by
  have distinct := openEntry_distinct hk.distinct q serial u pair
  unfold openEntry at distinct ⊢
  split at distinct
  next e he =>
    have listed := hk.entries e (List.mem_of_find?_eq_some he)
    refine hk.append List.filter_sublist ((length_withoutEntry_lt he).trans_le hk.length) ?_ distinct
    refine ⟨h.serial _ rfl, min_le_left .., fun x hx => ?_, Nat.zero_le _⟩
    dsimp only at hx
    split at hx
    next y hy => exact listed.pair x (hy.trans hx)
    next => exact h.pair x hx
  next =>
    have opened : ArrearsEntry.InRange { serial := serial, owed := u, pair := pair, age := 0, origin := q } :=
      ⟨h.serial _ rfl, h.units, h.pair, Nat.zero_le _⟩
    have hlen := hk.length
    refine hk.append ?_ ?_ opened distinct
    · split
      · exact List.tail_sublist k
      · exact List.Sublist.refl k
    · split
      · rw [List.length_tail]
        omega
      next hroom => exact Nat.lt_of_not_le hroom

theorem State.Fit.openInList {serial u : Nat} {pair : Option Pair} (h : s.Fit r m l) (q : Position)
    (ho : r → OwedInRange (some serial) u pair) : (s.openInList q serial u pair).Fit r m l := by
  have opened := h.setArrears fun hr => openEntry_inRange (h.ranged hr).arrears q (ho hr)
  have evicted : ∀ x, State.Fit r m l (({ s with
      arrears := (openEntry s.arrears q serial u pair).entries } : State).dropEvicted x)
    | none => opened
    | some e => opened.dropEntry e _
  have excess : ∀ (t : State) n, t.Fit r m l → (t.dropExcess q n).Fit r m l := fun t n ht =>
    .ite (fun _ => ht.dropUnits ..) fun _ => ht
  have unresolved : ∀ (t : State) k, t.Fit r m l → (t.dropUnresolved q k).Fit r m l := fun t k ht => by
    cases k with
    | none => exact ht
    | some k => exact ht.dropUnits ..
  exact unresolved _ _ (excess _ _ ((evicted _).place _))

theorem State.Fit.transfer {pair : Option Pair} (h : s.Fit r m l) (q x : Position) (serial u : Nat)
    (hp : r → ∀ q, pair = some q → q.InRange) : (s.transfer q x serial u pair).Fit r m l := by
  have paired : ∀ t : State, t.Fit r m l → (t.transferPair x pair).Fit r m l := by
    intro t ht
    unfold State.transferPair
    split
    · exact ht
    next y =>
      split
      · exact ht.dropUnits ..
      · exact (ht.addOwed ..).addDebited _
      · exact ht.onBooth fun hr hb => { hb with pendingRes := hp hr }
  have taken := paired _ (((h.place (.opened q serial u pair)).place
    (.collected x serial u (s.handedK x pair))).addOwed x u)
  exact (State.Fit.ite (fun _ => taken.clearSaturated x) fun _ => taken).evaluate x

theorem State.Fit.sendOut {debt : Option Nat} {u : Nat} {pair : Option Pair} (h : s.Fit r m l) (p : Position)
    (ho : r → OwedInRange debt u pair) : (s.sendOut p debt u pair).Fit r m l := by
  refine .ite (fun _ => h) fun _ => ?_
  split
  · unfold State.openArrears
    split
    · exact h.transfer _ _ _ _ fun hr => (ho hr).pair
    · exact h.openInList p ho
  · exact h.dropNoSerial ..

theorem ListInRange.filter {k : List ArrearsEntry} (hk : ListInRange k) (f : ArrearsEntry → Bool) :
    ListInRange (k.filter f) where
  length := (List.length_filter_le ..).trans hk.length
  distinct := hk.distinct.sublist (List.filter_sublist.map _)
  entries e he := hk.entries e (List.mem_filter.mp he).1

theorem State.Fit.withoutEntry (h : s.Fit r m l) (serial : Nat) :
    { s with arrears := withoutEntry s.arrears serial }.Fit r m l :=
  h.setArrears fun hr => (h.ranged hr).arrears.filter _

theorem State.Fit.collect (h : s.Fit r m l) (p : Position) (serial : Nat) : (s.collect p serial).Fit r m l := by
  unfold State.collect
  split
  · exact h
  next e he =>
    have charged := ((h.withoutEntry serial).place (.collected p serial e.owed (pairK e.pair))).charge p e.owed
    dsimp only
    split
    next q hq =>
      exact charged.takePair p fun hr =>
        ((h.ranged hr).arrears.entries e (List.mem_of_find?_eq_some he)).pair q hq
    next => exact charged

theorem State.Fit.expire (h : s.Fit r m l) (e : ArrearsEntry) : (s.expire e).Fit r m l :=
  (h.withoutEntry _).dropEntry ..

/-! ## Modes and VACANT (R4, R160) -/

theorem Booth.InRange.applyMode {b : Booth} (h : b.InRange) (x : Mode) : (b.applyMode x).InRange := by
  unfold Booth.applyMode
  split <;> exact { h with }

theorem Booth.InRange.enterVacant {b : Booth} (h : b.InRange) : b.enterVacant.InRange := by
  have vacated : Booth.InRange { b with state := .vacant } := { h with }
  unfold Booth.enterVacant
  split
  · exact { vacated.applyMode _ with }
  · exact vacated

theorem Booth.applyMode_state (b : Booth) (x : Mode) : (b.applyMode x).state = b.state := by
  unfold Booth.applyMode
  split <;> rfl

theorem Booth.applyMode_callUp (b : Booth) (x : Mode) : (b.applyMode x).callUp = b.callUp := by
  unfold Booth.applyMode
  split <;> rfl

theorem Booth.applyMode_rate (b : Booth) (x : Mode) : (b.applyMode x).rate = b.rate := by
  unfold Booth.applyMode
  split <;> rfl

/-- A booth with no call agrees in VACANT, whatever mode is then applied. -/
theorem Booth.enterVacant_agrees {b : Booth} (hcall : b.callUp = false) (hrate : b.rate = none) :
    b.enterVacant.Agrees := by
  unfold Booth.enterVacant
  split
  · refine Booth.agrees_of_noCall ?_ ?_ (.inl ?_)
    · simpa [Booth.applyMode_callUp] using hcall
    · simpa [Booth.applyMode_rate] using hrate
    · simp [Booth.applyMode_state]
  · exact Booth.agrees_of_noCall hcall hrate (.inl rfl)

theorem Booth.InRange.deliverMode {b : Booth} (h : b.InRange) (x : Mode) : (b.deliverMode x).InRange := by
  unfold Booth.deliverMode
  split
  · exact { h.applyMode x with }
  · exact { h with }

theorem Booth.Agrees.deliverMode {b : Booth} (h : b.Agrees) (x : Mode) : (b.deliverMode x).Agrees := by
  unfold Booth.deliverMode
  split
  next hv =>
    obtain ⟨hcall, hrate⟩ := h.restNoCall (.inl hv)
    refine Booth.agrees_of_noCall ?_ ?_ (.inl ?_)
    · simpa [Booth.applyMode_callUp] using hcall
    · simpa [Booth.applyMode_rate] using hrate
    · simpa [Booth.applyMode_state] using hv
  next => exact h.of_same

theorem State.Fit.enterVacant {p : Position} (h : s.Fit r m l)
    (hm : m → (s.booth p).callUp = false ∧ (s.booth p).rate = none) : (s.onBooth p Booth.enterVacant).Fit r m l :=
  h.onBooth (fun _ hb => hb.enterVacant) fun hm' _ => Booth.enterVacant_agrees (hm hm').1 (hm hm').2

/-! ## Serials, entries and rates that an operation reads -/

/-- The two halves of a serial make a number of 32 bits (R1). -/
theorem Booth.InRange.serial {b : Booth} (h : b.InRange) : ∀ n, b.serial = some n → n < 4294967296 := by
  intro n hn
  unfold Booth.serial at hn
  split at hn
  next x y hx hy =>
    have := h.serialHigh x hx
    have := h.serialLow y hy
    obtain rfl := Option.some.inj hn
    omega
  next => exact nomatch hn

theorem Booth.InRange.debtSerial {b : Booth} (h : b.InRange) : ∀ n, b.debtSerial = some n → n < 4294967296 := by
  intro n hn
  unfold Booth.debtSerial at hn
  split at hn
  next hx => exact h.serial n (hx.trans hn)
  next =>
    split at hn
    next hx => exact h.expected n (hx.trans hn)
    next =>
      split at hn
      · exact h.lastSerial n hn
      · exact nomatch hn

/-- The pair that leaves a booth is in range (R59). -/
theorem outPair_inRange {b : Booth} {c : Intercept} (hb : b.InRange) (hc : c.InRange) :
    ∀ q, outPair c b = some q → q.InRange := by
  intro q hq
  unfold outPair at hq
  split at hq
  next x hx =>
    have record := hc.inFlight x hx
    unfold InFlight.pair at hq
    split at hq
    next y hy =>
      split at hy
      next hk =>
        obtain rfl := Option.some.inj (hy.trans hq)
        refine ⟨?_, record.value, hk, record.k⟩
        cases hp : x.prior with
        | none => exact Nat.zero_le _
        | some n => exact record.prior n hp
      next => exact nomatch hy
    next => exact hb.pendingRes q hq
  next => exact hb.pendingRes q hq

/-- A SET entry that a lookup finds is in range (R28, R29). -/
theorem lookup_inRange {band : Band} {e : TariffEntry} (h : s.TablesInRange) (he : s.lookup band = some e) :
    e.charge ≤ 15 ∧ e.rate ≤ 4095 := h.tariff _ _ e he

/-! ## Calls (R10 to R21) -/

theorem State.Fit.startCall {p : Position} (h : s.Fit r m l) (hm : m → (s.booth p).mode = .charged) :
    (s.startCall p).Fit r m l := by
  unfold State.startCall
  dsimp only
  split
  next e he =>
    refine (((h.onBooth (fun hr hb => ?_) fun hm' _ => Booth.agrees_of_charged (hm hm') (by simp) (by simp)).addAccrued
      _).charge ..).evaluate _
    have entry := lookup_inRange (h.ranged hr).tables he
    refine { hb with rate := ?_, fraction := by simp, callUnits := ?_, lastSerial := hb.serial }
    · rintro _ ⟨⟩
      exact entry.2
    · dsimp only
      split <;> omega
  next =>
    refine h.startClearing _ (fun hr => ?_) hm
    have hb := h.boothRange hr p
    exact { hb with rate := forall_none, callUnits := Nat.zero_le _, lastSerial := hb.serial }

theorem State.Fit.startOpen {p : Position} (h : s.Fit r m l) (hm : m → (s.booth p).mode = .charged) :
    (s.startOpen p).Fit r m l :=
  h.onBooth (fun _ hb => { hb with callUnits := Nat.zero_le _ })
    fun hm' _ => Booth.agrees_of_charged (hm hm') (by simp) (by simp)

theorem State.Fit.startFaultCall {p : Position} (h : s.Fit r m l) (hm : m → (s.booth p).mode = .charged)
    (hf : (s.booth p).state = .fault) : (s.startFaultCall p).Fit r m l :=
  (h.onBooth (fun hr hb => { hb with callUnits := Nat.zero_le _, timer := hold_inRange (h.settings hr) })
    fun hm' _ => Booth.agrees_of_charged (hm hm') (by simp [hf]) (by simp [hf])).place _

theorem State.Fit.startResumed {p : Position} (h : s.Fit r m l) (hm : m → (s.booth p).mode = .charged) :
    (s.startResumed p).Fit r m l := by
  unfold State.startResumed
  dsimp only
  split
  next e he =>
    refine State.Fit.ite (fun _ => State.Fit.evaluate ?_ p) (fun _ => State.Fit.enterGrace ?_ (by simpa using hm))
    all_goals
      refine h.onBooth (fun hr hb => ?_) fun hm' _ => Booth.agrees_of_charged (hm hm') (by simp) (by simp)
      have last : ∀ n, (match (s.booth p).serial with | some n => some n | none => (s.booth p).lastSerial) = some n →
          n < 4294967296 := by
        intro n hn
        split at hn
        next hx => exact hb.serial n (hx.trans hn)
        next => exact hb.lastSerial n hn
      refine { hb with rate := ?_, fraction := by simp, callUnits := Nat.zero_le _, lastSerial := last }
      rintro _ ⟨⟩
      exact (lookup_inRange (h.ranged hr).tables he).2
  next => exact h.startClearing _ (fun hr => { h.boothRange hr p with rate := forall_none }) hm

theorem State.Fit.answerRise {p : Position} (h : s.Fit r m l) (hm : m → (s.booth p).mode = .charged) :
    (s.answerRise p).Fit r m l := by
  unfold State.answerRise
  split
  next => exact h.startCall hm
  next => exact h.startOpen hm
  next hf => exact h.startFaultCall hm hf
  all_goals exact h

theorem State.Fit.resumedNo (h : s.Fit r m l) (p : Position) :
    (s.onBooth p fun b => { b with resumed := .no }).Fit r m l := h.onBooth fun _ hb => { hb with }

theorem State.Fit.checkResume {p : Position} (h : s.Fit r m l) (hm : m → (s.booth p).mode = .charged) :
    (s.checkResume p).Fit r m l := by
  unfold State.checkResume
  split
  · unfold State.resumeFound
    split
    next hf => exact (h.resumedNo p).startFaultCall (by simpa using hm) (by simpa using hf)
    next => exact .ite (fun _ => h) fun _ => h.startResumed hm
  · exact h.resumedNo p
  · exact h

end Sys2Proof.Machine

namespace Sys2Proof.Machine

variable {r m : Prop} {l : List Due} {s t : State}

/-! ## Ends of calls, cards and reader faults (R6 to R9, R17 to R19) -/

/-- The booth that takes a direct transfer holds the serial (R71). -/
theorem State.holds_of_holder {n : Nat} {x : Position} (h : s.holder n = some x) : (s.booth x).holds n = true := by
  unfold State.holder at h
  generalize positions = k at h
  simpa using List.find?_some h

theorem booth_dropUnits (s : State) (p q : Position) (n : Nat) (cause : DropCause) :
    (s.dropUnits p n cause).booth q = s.booth q := by
  simp [State.dropUnits]

theorem booth_dropNoSerial (s : State) (p q : Position) (n : Nat) : (s.dropNoSerial p n).booth q = s.booth q := by
  unfold State.dropNoSerial
  split
  · exact booth_dropUnits ..
  · rw [booth_dropUnits, booth_dropUnits]

/-- Units that leave a booth pass by every booth that holds no serial (R71). -/
theorem booth_sendOut_of_holdless {q : Position} (hq : ∀ n, (s.booth q).holds n = false) (p : Position)
    (debt : Option Nat) (u : Nat) (pair : Option Pair) : (s.sendOut p debt u pair).booth q = s.booth q := by
  unfold State.sendOut
  split
  · rfl
  · split
    · unfold State.openArrears
      split
      next x hx =>
        have hne : q ≠ x := by
          rintro rfl
          exact Bool.noConfusion ((hq _).symm.trans (State.holds_of_holder hx))
        exact (localAt_transfer ..).booths q hne
      next =>
        obtain ⟨x, hx⟩ := exists_ne q
        exact (localAt_openInList s p x ..).booths q hx.symm
    · exact booth_dropNoSerial ..

theorem State.Fit.endCall (h : s.Fit r m l) (p : Position) : (s.endCall p).Fit r m l := by
  have ended : r → ∀ b : Booth, b = { s.booth p with
      fraction := 0, rate := none, callUp := false, grace := 0, timer := none, resumed := .no, band := none,
      lastSerial := none } → b.InRange := by
    rintro hr _ rfl
    exact { h.boothRange hr p with
      rate := forall_none, fraction := by simp, grace := Nat.zero_le _, timer := forall_none, lastSerial := forall_none }
  unfold State.endCall
  dsimp only
  split
  · refine (h.place _).setBooth (fun hr => ?_) fun _ => Booth.agrees_of_noCall rfl rfl (.inr (.inl rfl))
    exact { ended hr _ rfl with }
  next hpresent =>
    have vacating : ∀ b : Booth, b = { s.booth p with
        fraction := 0, rate := none, callUp := false, grace := 0, timer := none, resumed := .no, band := none,
        lastSerial := none, owed := 0, pendingRes := none } →
        (((s.place (.callEnd p (s.booth p))).setBooth p b).sendOut p (s.booth p).lastSerial (s.booth p).owed
          (s.booth p).pendingRes |>.onBooth p Booth.enterVacant).Fit r m l := by
      rintro b rfl
      refine State.Fit.enterVacant (((h.place _).setBooth (fun hr => ?_) fun hm => ?_).sendOut p fun hr => ?_) fun _ => ?_
      · exact { ended hr _ rfl with owed := Nat.zero_le _, pendingRes := forall_none }
      · exact (h.modes hm p).endCall
      · exact ⟨(h.boothRange hr p).lastSerial, (h.boothRange hr p).owed, (h.boothRange hr p).pendingRes⟩
      · rw [booth_sendOut_of_holdless fun n => Booth.holds_of_notPresent (by simpa using hpresent) n]
        simp
    exact vacating _ rfl

theorem State.Fit.endFaultCall (h : s.Fit r m l) (p : Position) : (s.endFaultCall p).Fit r m l := by
  refine State.Fit.sendOut (State.Fit.setBooth (h.place _) (fun hr => ?_) fun hm => (h.modes hm p).endCall) p fun hr => ?_
  · exact { h.boothRange hr p with
      rate := forall_none, fraction := by simp, timer := forall_none, owed := Nat.zero_le _, lastSerial := forall_none }
  · exact ⟨(h.boothRange hr p).lastSerial, (h.boothRange hr p).owed, forall_none⟩

theorem State.Fit.lineFall (h : s.Fit r m l) (p : Position) : (s.lineFall p).Fit r m l := by
  unfold State.lineFall
  split
  · exact .ite (fun _ => h.endFaultCall p) fun _ => h.endCall p
  · exact .ite (fun _ => h.resumedNo p) fun _ => h

/-- A booth that has forgotten its card is in range (R6, R9). -/
theorem Booth.InRange.forgetCard {b : Booth} (h : b.InRange) : b.forgetCard.InRange :=
  { h with serialHigh := forall_none, serialLow := forall_none, known := forall_none }

/-- The resume check finds a call up at a CHARGED booth only (R20). -/
theorem Booth.foundUp_charged {b : Booth} (h : b.foundUp = true) : b.mode = .charged := by
  simp only [Booth.foundUp, decide_eq_true_eq] at h
  exact h.1

theorem State.Fit.insertCard (h : s.Fit r m l) (p : Position) : (s.insertCard p).Fit r m l := by
  have inserted : (s.setBooth p { (s.booth p).forgetCard with
      present := .yes, state := if (s.booth p).state = .vacant then .card else (s.booth p).state }).Fit r m l := by
    refine h.setBooth (fun hr => { (h.boothRange hr p).forgetCard with }) fun hm => ?_
    have hb := h.modes hm p
    split
    next hv =>
      obtain ⟨hcall, hrate⟩ := hb.restNoCall (.inl hv)
      exact Booth.agrees_of_noCall hcall hrate (.inr (.inl rfl))
    next => exact hb.of_same
  unfold State.insertCard
  dsimp only
  refine .ite (fun hup => inserted.startResumed fun _ => ?_) fun _ => inserted
  simpa [Booth.forgetCard] using Booth.foundUp_charged hup.2

theorem State.Fit.afterRemoval (h : s.Fit r m l) (p : Position) : (s.afterRemoval p).Fit r m l := by
  unfold State.afterRemoval
  split
  next hcard => exact h.enterVacant fun hm => (h.modes hm p).restNoCall (.inr hcard)
  next hcall => exact h.enterGrace (h.charged (.inl hcall))
  all_goals exact h

theorem State.Fit.removeCard {fixed : Option Nat} (h : s.Fit r m l) (p : Position)
    (hf : r → ∀ n, fixed = some n → n < 4294967296) : (s.removeCard p fixed).Fit r m l := by
  refine State.Fit.afterRemoval (State.Fit.sendOut (State.Fit.setSlot (State.Fit.setBooth h ?_ ?_) ?_) p ?_) p
  · exact fun hr => { (h.boothRange hr p).forgetCard with
      expected := forall_none, owed := Nat.zero_le _, pendingRes := forall_none }
  · exact fun hm => (h.modes hm p).of_same
  · exact fun hr => { (h.slotRange hr p).noHeld.noInFlight with lock := Nat.zero_le _ }
  · intro hr
    refine ⟨fun n hn => ?_, (h.boothRange hr p).owed, outPair_inRange (h.boothRange hr p) (h.slotRange hr p)⟩
    cases fixed with
    | none => exact (h.boothRange hr p).debtSerial n hn
    | some x => exact hf hr n hn

theorem State.Fit.identified (h : s.Fit r m l) (p : Position) : (s.identified p).Fit r m l := by
  unfold State.identified
  split
  · exact h
  next n hn =>
    refine (State.Fit.collect (h.onBooth fun hr hb => ?_) p n).evaluate p
    refine { hb with lastSerial := fun x hx => ?_ }
    split at hx
    · exact hb.serial x (hn.trans hx)
    · exact hb.lastSerial x hx

theorem State.Fit.identify (h : s.Fit r m l) (p : Position) : (s.identify p).Fit r m l := by
  unfold State.identify
  dsimp only
  split
  · exact h
  · split
    · exact h.identified p
    next e he =>
      refine .ite (fun _ => (h.onBooth fun _ hb => ?_).identified p) fun _ => ?_
      · exact { hb with expected := forall_none }
      · have removed := h.removeCard (fixed := some e) p fun hr n hn =>
          (h.boothRange hr p).expected n (he.trans hn)
        refine (State.Fit.onBooth (removed.insertCard p) fun hr hb => ?_).identified p
        exact { hb with serialHigh := (h.boothRange hr p).serialHigh, serialLow := (h.boothRange hr p).serialLow }

theorem Booth.InRange.withHalf {b : Booth} (h : b.InRange) (high : Bool) {v : Nat} (hv : v ≤ 65535) :
    (b.withHalf high v).InRange := by
  unfold Booth.withHalf
  split
  · exact { h with serialHigh := by rintro _ ⟨⟩; exact hv }
  · exact { h with serialLow := by rintro _ ⟨⟩; exact hv }

theorem Booth.Agrees.withHalf {b : Booth} (h : b.Agrees) (high : Bool) (v : Nat) : (b.withHalf high v).Agrees := by
  cases high <;> exact h.of_same

theorem State.Fit.withHalf {v : Nat} (h : s.Fit r m l) (p : Position) (high : Bool) (hv : v ≤ 65535) :
    (s.onBooth p fun b => b.withHalf high v).Fit r m l :=
  h.onBooth (fun _ hb => hb.withHalf high hv) fun _ hb => hb.withHalf high v

theorem State.Fit.readHalf {v : Nat} (h : s.Fit r m l) (p : Position) (high : Bool) (hv : v ≤ 65535) :
    (s.readHalf p high v).Fit r m l := by
  have changed := ((h.removeCard (fixed := none) p fun _ => forall_none).insertCard p).withHalf p high hv
  unfold State.readHalf
  split
  · exact ((h.withHalf p high hv).dropHeldRead ..).identify p
  · exact .ite (fun _ => h) fun _ => changed

theorem State.Fit.enterFault (h : s.Fit r m l) (p : Position) : (s.enterFault p).Fit r m l := by
  refine State.Fit.placeIf (State.Fit.sendOut (State.Fit.setSlot (State.Fit.setBooth (h.place _) ?_ ?_) ?_) p ?_) _ _
  · intro hr
    have hb := h.boothRange hr p
    have timer : ∀ x, (if (s.booth p).callUp ∧ (s.booth p).timer = none then
        some (ClearDown.assert s.settings.clearDownHold) else (s.booth p).timer) = some x → x.inRange := by
      split
      · exact hold_inRange (h.settings hr)
      · exact hb.timer
    simp only [State.place_settings]
    exact { hb with
      serialHigh := forall_none, serialLow := forall_none, expected := forall_none, known := forall_none,
      owed := Nat.zero_le _, pendingRes := forall_none, grace := Nat.zero_le _, timer := timer }
  · exact fun hm => ⟨fun _ => .inr (.inr rfl), (h.modes hm p).freeNoCall, nofun⟩
  · exact fun hr => (h.slotRange hr p).noHeld.noInFlight
  · exact fun hr => ⟨(h.boothRange hr p).debtSerial, (h.boothRange hr p).owed,
      outPair_inRange (h.boothRange hr p) (h.slotRange hr p)⟩

theorem State.Fit.clearRecord (h : s.Fit r m l) (p : Position) : (s.clearRecord p).Fit r m l :=
  h.onSlot fun _ hc => hc.noInFlight

theorem State.Fit.declareFault (h : s.Fit r m l) (p : Position) : (s.declareFault p).Fit r m l :=
  .ite (fun _ => (h.place _).onSlot fun _ hc => hc.noInFlight) fun _ => h.enterFault p

theorem State.Fit.leaveFault (h : s.Fit r m l) (p : Position) : (s.leaveFault p).Fit r m l := by
  have left : ((s.setBooth p { (s.booth p).forgetCard with present := .no, owed := 0 }).onSlot p fun c =>
      { c with inFlight := none, lock := 0, held := none }).Fit r m l := by
    refine (h.setBooth (fun hr => ?_) fun hm => (h.modes hm p).of_same).onSlot fun _ hc => ?_
    · exact { (h.boothRange hr p).forgetCard with owed := Nat.zero_le _ }
    · exact { hc.noHeld.noInFlight with lock := Nat.zero_le _ }
  unfold State.leaveFault
  dsimp only
  refine State.Fit.onBooth (State.Fit.placeIf (left.sendOut p fun hr => ?_) _ _) (fun _ hb => ?_) fun _ _ => ?_
  · exact ⟨(h.boothRange hr p).lastSerial, (h.boothRange hr p).owed, forall_none⟩
  · refine Booth.InRange.enterVacant ?_
    exact { hb with rate := forall_none, fraction := by simp, lastSerial := forall_none, timer := forall_none }
  · exact Booth.enterVacant_agrees rfl rfl

/-! ## Writes in flight (R58 to R60, R95) -/

/-- A prior balance and covered units in the range of a 16-bit word (R58, R59). -/
structure PairInRange (x : Option Nat × Nat) : Prop where
  prior : ∀ n, x.1 = some n → n ≤ 65535
  covered : x.2 ≤ 65535

/-- The prior balance and the covered units of a write are in range (R58, R59). -/
theorem acceptedPair_inRange {b : Booth} (h : b.InRange) (x : SlotRecord) (a : WordAddr) (v : Nat) :
    PairInRange (acceptedPair b x a v) := by
  have none_zero : PairInRange (none, 0) := ⟨nofun, Nat.zero_le _⟩
  unfold acceptedPair
  split
  · exact none_zero
  · split
    · exact none_zero
    next n hn =>
      have known : ∀ y, some n = some y → y ≤ 65535 := by
        rintro _ ⟨⟩
        exact h.known n hn
      have hle := h.known n hn
      split
      · exact ⟨known, (Nat.sub_le ..).trans hle⟩
      · exact ⟨known, Nat.zero_le _⟩
      · exact ⟨known, (min_le_left ..).trans h.owed⟩

theorem State.Fit.openRecord {v : Nat} (h : s.Fit r m l) (p : Position) (x : SlotRecord) (a : WordAddr)
    (hv : r → v ≤ 65535) : (s.openRecord p x a v).Fit r m l := by
  refine State.Fit.evaluate (State.Fit.onSlot (State.Fit.onBooth h fun _ hb => ?_) fun hr hc => ?_) p
  · exact { hb with owed := (Nat.sub_le ..).trans hb.owed }
  · obtain ⟨prior, k⟩ := acceptedPair_inRange (h.boothRange hr p) x a v
    have record : ∀ y, some (⟨x.origin, a, v, (acceptedPair (s.booth p) x a v).1, (acceptedPair (s.booth p) x a v).2,
        0⟩ : InFlight) = some y → y.InRange := by
      rintro _ ⟨⟩
      exact ⟨hv hr, prior, k, Nat.zero_le _⟩
    split
    · exact { hc.noHeld with inFlight := record }
    · exact { hc with inFlight := record }

theorem State.Fit.settleRecord {v : Nat} (h : s.Fit r m l) (p : Position) (x : InFlight) (own : Bool)
    (hv : r → v ≤ 65535) : (s.settleRecord p x v own).Fit r m l :=
  ((((h.clearRecord p).addDebited _).charge ..).learnBalance p own hv).evaluate p

theorem State.Fit.notPerformed {x : InFlight} (h : s.Fit r m l) (p : Position) (hx : r → x.InRange) :
    (s.notPerformed p x).Fit r m l := by
  unfold State.notPerformed
  split
  · split
    next n hn => exact h.settleRecord p x true fun hr => (hx hr).prior n hn
    next => exact h.clearRecord p
  · exact h.clearRecord p

/-! ## Replies (R120) -/

theorem State.Fit.live {f : State → State} (h : s.Fit r m l) (hf : (f s).Fit r m l) : (s.live f).Fit r m l :=
  .ite (fun _ => h) fun _ => hf

theorem State.Fit.inFrame {f : State → State} (h : s.Fit r m l) (hf : (f s).Fit r m l) : (s.inFrame f).Fit r m l :=
  h.live (.ite (fun _ => hf) fun _ => h)

theorem State.Fit.setPort (h : s.Fit r m l) (x : Port) : { s with port := x }.Fit r m l where
  ranged hr :=
    have hs := h.ranged hr
    ⟨⟨hs.tables.settings, hs.tables.tariff, hs.tables.schedule, hs.tables.minute⟩, hs.booths, hs.slots, hs.arrears,
      hs.reports, hs.lost, hs.clocks⟩
  modes := h.modes

theorem State.Fit.reach (h : s.Fit r m l) (n : Nat) : (s.reach n).Fit r m l := h.setPort _

theorem State.Fit.presenceStep (h : s.Fit r m l) (p : Position) (x : Reply) : (s.presenceStep p x).Fit r m l := by
  have noted : ((s.clearRecord p).onBooth p fun b => { b with present := .no }).Fit r m l :=
    (h.clearRecord p).onBooth fun _ hb => { hb with }
  unfold State.presenceStep
  dsimp only
  split
  · exact .ite (fun _ => h.leaveFault p) fun _ => h
  · split
    · split
      · exact h.removeCard p fun _ => forall_none
      · refine .ite (fun hup => noted.startResumed fun _ => ?_) fun _ => noted
        simpa [State.clearRecord] using Booth.foundUp_charged hup
      · exact h.clearRecord p
    · exact .ite (fun _ => h) fun _ => h.insertCard p

theorem State.Fit.recordStep {sent : Option SlotRecord} (h : s.Fit r m l) (p : Position) (x : Reply)
    (hsent : r → ∀ q a v, sent = some q → q.sent = .write a v → v ≤ 65535) : (s.recordStep p sent x).Fit r m l := by
  unfold State.recordStep
  split
  next y hy =>
    have undone := h.notPerformed (x := y) p fun hr => (h.slotRange hr p).inFlight y hy
    split
    next a v =>
      refine .ite (fun _ => .ite (fun _ => ?_) fun _ => h.clearRecord p) fun _ => undone
      exact h.settleRecord p y _ fun _ => by have := v.isLt; omega
    any_goals exact undone
    all_goals exact h
  next =>
    split
    next q =>
      split
      next a v hq => exact h.openRecord p q a fun hr => hsent hr q a v rfl hq
      all_goals exact h
    next => exact h

theorem word_le (v : Word) : v.toNat ≤ 65535 := by
  have := v.isLt
  omega

theorem State.Fit.wordStep (h : s.Fit r m l) (p : Position) (own : Bool) (x : Reply) : (s.wordStep p own x).Fit r m l := by
  refine .ite (fun _ => h) fun _ => ?_
  split
  next a v =>
    split_ifs
    · exact h.readHalf p true (word_le v)
    · exact h.readHalf p false (word_le v)
    · exact h.learnBalance p own fun _ => word_le v
    · exact h.onBooth fun _ hb => { hb with }
    · exact h
  next a v => exact .ite (fun _ => h.learnBalance p own fun _ => word_le v) fun _ => h
  next => exact h

theorem State.Fit.countTry {x : Held} (h : s.Fit r m l) (p : Position) (hx : (s.slot p).held = some x) :
    (s.countTry p x).Fit r m l := by
  have counted : (s.onSlot p fun c => { c with held := some { x with tries := min Config.ownTries (x.tries + 1) } }).Fit
      r m l := by
    refine h.onSlot fun _ hc => { hc with tries := ?_, heldValue := ?_ }
    · rintro _ ⟨⟩
      exact min_le_left ..
    · rintro _ v ⟨⟩ hv
      exact hc.heldValue x v hx hv
  exact .ite (fun _ => counted.declareFault p) fun _ => counted

theorem State.Fit.heldStep (h : s.Fit r m l) (p : Position) (own : Bool) (x : Reply) : (s.heldStep p own x).Fit r m l := by
  refine .ite (fun _ => ?_) fun _ => h
  split
  · exact h
  next y hy =>
    refine .ite (fun _ => h.countTry p hy) fun _ => ?_
    split
    · exact .ite (fun _ => h.dropHeld p) fun _ => h
    · exact h

theorem State.Fit.setLock {n : Nat} (h : s.Fit r m l) (p : Position) (hn : r → n ≤ 15) :
    (s.onSlot p fun c => { c with lock := n }).Fit r m l := h.onSlot fun hr hc => { hc with lock := hn hr }

theorem State.Fit.lockStep (h : s.Fit r m l) (p : Position) (held : Option InFlight) (x : Reply) :
    (s.lockStep p held x).Fit r m l := .ite (fun _ => h.setLock p fun _ => Nat.zero_le _) fun _ => h

theorem State.Fit.takeReply {sent : Option SlotRecord} (h : s.Fit r m l) (p : Position) (x : Reply)
    (hsent : r → ∀ q a v, sent = some q → q.sent = .write a v → v ≤ 65535) : (s.takeReply p sent x).Fit r m l := by
  have recorded := (h.presenceStep p x).recordStep p x hsent
  refine State.Fit.lockStep (State.Fit.heldStep ?_ ..) ..
  exact .ite (fun _ => recorded) fun _ => recorded.wordStep ..

theorem State.Fit.answer (h : s.Fit r m l) (p : Position) (u : UpReply) : (s.answer p u).Fit r m l :=
  State.Fit.setPort (h.onSlot fun _ hc => { hc with sentValue := fun _ _ _ h => by simp at h }) _

theorem State.Fit.reply (h : s.Fit r m l) (p : Position) (x : Reply) (bytes : SlotBytes) :
    (s.reply p x bytes).Fit r m l :=
  h.inFrame (((h.reach _).takeReply p x fun hr => (h.slotRange hr p).sentValue).answer ..)

end Sys2Proof.Machine

namespace Sys2Proof.Machine

variable {r m : Prop} {l : List Due} {s t : State}

/-! ## Requests (R106 to R116) -/

theorem State.Fit.arrive {f : State → State} (h : s.Fit r m l) (p : Position)
    (hf : (s.reach (requestIn p)).Fit r m l → (f (s.reach (requestIn p))).Fit r m l) : (s.arrive p f).Fit r m l :=
  h.inFrame (hf (h.reach _))

theorem State.Fit.send {x : SlotRecord} (h : s.Fit r m l) (p : Position) (bytes : SlotBytes)
    (hx : r → ∀ a v, x.sent = .write a v → v ≤ 65535) : (s.send p x bytes).Fit r m l := by
  refine State.Fit.setPort (h.onSlot fun hr hc => { hc with sentValue := ?_ }) _
  rintro _ a v ⟨⟩
  exact hx hr a v

theorem State.Fit.sendNull (h : s.Fit r m l) (p : Position) (x : Treatment) : (s.sendNull p x).Fit r m l :=
  h.send p _ fun _ _ _ hw => nomatch hw

theorem State.Fit.sendRead (h : s.Fit r m l) (p : Position) (a : WordAddr) (rest : BitVec 32) (x : Treatment) :
    (s.sendRead p a rest x).Fit r m l := h.send p _ fun _ _ _ hw => nomatch hw

theorem State.Fit.kill (h : s.Fit r m l) (p : Position) (cause : RefuseCause) (attempted : Nat) :
    (s.kill p cause attempted).Fit r m l := (h.sendNull ..).place _

theorem State.Fit.insert {q : OwnRequest} (h : s.Fit r m l) (p : Position) (first : Bool)
    (hq : r → ∀ v, q = .write v → v ≤ 65535) : (s.insert p q first).Fit r m l := by
  have sent : r → ∀ a v, q.sent = .write a v → v ≤ 65535 := by
    intro hr a v hv
    cases q with
    | read => exact nomatch hv
    | write x =>
      obtain ⟨rfl, rfl⟩ := ReaderRequest.write.inj hv
      exact hq hr x rfl
  unfold State.insert
  dsimp only
  split
  · refine State.Fit.send (h.onSlot fun hr hc => { hc with tries := ?_, heldValue := ?_ }) p _ sent
    · rintro _ ⟨⟩
      exact Nat.zero_le _
    · rintro _ v ⟨⟩
      exact hq hr v
  · exact h.send p _ sent

theorem State.Fit.decideNull (h : s.Fit r m l) (p : Position) : (s.decideNull p).Fit r m l := by
  refine .ite (fun _ => ?_) fun _ => h.sendNull ..
  split
  next x hx => exact h.insert p false fun hr v hv => (h.slotRange hr p).heldValue x v hx hv
  next =>
    split
    next q hq =>
      refine h.insert p true fun hr v hv => ?_
      obtain ⟨n, hn, hle⟩ := need_write_le (hv ▸ hq)
      exact hle.trans ((h.boothRange hr p).known n hn)
    next => exact h.sendNull ..

theorem State.Fit.vetted (h : s.Fit r m l) (p : Position) (check : Option RefuseCause) (a : WordAddr) (v c : Word)
    (x : Treatment) : (s.vetted p check a v c x).Fit r m l := by
  have value : r → ∀ (b : WordAddr) (y : Nat), ReaderRequest.write a v.toNat = .write b y → y ≤ 65535 := by
    rintro _ b y ⟨⟩
    exact word_le v
  refine .ite (fun _ => h.sendNull ..) fun _ => ?_
  split
  · exact h.kill ..
  · unfold State.passWrite
    dsimp only
    split
    · exact State.Fit.send (h.onBooth fun _ hb => { hb with }) p _ value
    · exact h.send p _ value

/-! ## Headers and table words (R154 to R161) -/

theorem State.Fit.forAll {f : Position → State → State} (h : s.Fit r m l)
    (hf : ∀ p t, t.Fit r m l → (f p t).Fit r m l) : (s.forAll f).Fit r m l := forAll_induct hf s h

theorem State.Fit.restartReports (h : s.Fit r m l) : s.restartReports.Fit r m l := by
  refine State.Fit.forAll ⟨fun hr => ?_, h.modes⟩ fun p t ht => ht.setLock p fun _ => Nat.zero_le _
  have hs := h.ranged hr
  have tables : ∀ x : State, SameTables s x → x.TablesInRange := fun _ => TablesInRange.congr hs.tables
  exact ⟨tables _ ⟨rfl, rfl, rfl, rfl⟩, hs.booths, hs.slots, hs.arrears, Nat.zero_le _, Nat.zero_le _, hs.clocks⟩

/-- Table words and headers write the tables only. -/
theorem State.Fit.of_tables (h : s.Fit r m l) (ht : r → t.TablesInRange) (booths : t.booths = s.booths := by rfl)
    (slots : t.slots = s.slots := by rfl) (arrears : t.arrears = s.arrears := by rfl)
    (reports : t.reports = s.reports := by rfl) (lost : t.lost = s.lost := by rfl)
    (clocks : SameClocks s t := by exact (SameRest.refl s).2.1) : t.Fit r m l where
  ranged hr := by
    have hs := h.ranged hr
    obtain ⟨divider, tickCount, scan, sup, ⟨_, powerUp, _, _⟩, _, _⟩ := clocks
    refine ⟨ht hr, fun p => ?_, fun p => ?_, arrears ▸ hs.arrears, reports ▸ hs.reports, lost ▸ hs.lost, ?_⟩
    · rw [State.booth, booths]
      exact hs.booths p
    · rw [State.slot, slots]
      exact hs.slots p
    · rw [divider, tickCount, scan, sup, powerUp]
      exact hs.clocks
  modes hm p := by
    rw [State.booth, booths]
    exact h.modes hm p

theorem State.Fit.takeMinute (h : s.Fit r m l) (minute : Word) : (s.takeMinute minute).Fit r m l := by
  unfold State.takeMinute
  split
  next hlt =>
    refine h.of_tables fun hr => ?_
    have hs := (h.ranged hr).tables
    refine ⟨hs.settings, hs.tariff, hs.schedule, ?_⟩
    rintro _ ⟨⟩
    exact hlt
  next => exact h

theorem clamp_bounds {lo hi : Nat} (h : lo ≤ hi) (v : Nat) : lo ≤ clamp lo hi v ∧ clamp lo hi v ≤ hi := by
  unfold clamp
  omega

theorem State.Fit.takeTariff (h : s.Fit r m l) (band period charge : Byte) (rate : Word) :
    (s.takeTariff band period charge rate).Fit r m l := by
  unfold State.takeTariff
  split
  next b q _ _ =>
    refine h.of_tables fun hr => ?_
    have hs := (h.ranged hr).tables
    refine ⟨hs.settings, fun b' q' e he => ?_, hs.schedule, hs.minute⟩
    simp only [Fin.getElem_fin, Vector.getElem_set] at he
    split at he
    next hb =>
      simp only [Vector.getElem_set] at he
      split at he
      · obtain rfl := Option.some.inj he
        exact ⟨(clamp_bounds (Nat.zero_le _) _).2, (clamp_bounds (Nat.zero_le _) _).2⟩
      · exact hs.tariff b q' e he
    next => exact hs.tariff b' q' e he
  next => exact h

theorem State.Fit.takeSchedule (h : s.Fit r m l) (slot : Byte) (minute : Word) (period : Byte) :
    (s.takeSchedule slot minute period).Fit r m l := by
  unfold State.takeSchedule
  split
  next n _ =>
    refine h.of_tables fun hr => ?_
    have hs := (h.ranged hr).tables
    refine ⟨hs.settings, hs.tariff, fun k x hx => ?_, hs.minute⟩
    simp only [Fin.getElem_fin, Vector.getElem_set] at hx
    split at hx
    · unfold switchPoint at hx
      split at hx
      next hlt =>
        obtain rfl := Option.some.inj hx
        exact hlt
      next => exact nomatch hx
    · exact hs.schedule k x hx
  next => exact h

/-- A SETTING word leaves every setting in its range (R155, R158). -/
theorem Settings.InRange.set {x : Settings} (h : x.InRange) (number : Byte) (v : Word) : (x.set number v).InRange := by
  unfold Settings.set
  split
  · exact { h with insertionThreshold := clamp_bounds (by decide) _ }
  · exact { h with rowAllowance := (clamp_bounds (by decide) _).2 }
  · exact { h with lowCredit := (clamp_bounds (by decide) _).2 }
  · exact { h with graceTime := (clamp_bounds (by decide) _).2 }
  · exact { h with lockLimit := clamp_bounds (by decide) _ }
  · exact { h with retention := clamp_bounds (by decide) _ }
  · exact { h with }
  · exact { h with debounceCount := clamp_bounds (by decide) _ }
  · exact { h with scanStep := clamp_bounds (by decide) _ }
  · exact { h with clearDownHold := clamp_bounds (by decide) _ }
  · exact { h with alertThreshold := clamp_bounds (by decide) _ }
  · exact { h with }
  · exact h

theorem State.Fit.takeSetting (h : s.Fit r m l) (number : Byte) (value : Word) :
    (s.takeSetting number value).Fit r m l := by
  refine h.of_tables fun hr => ?_
  have hs := (h.ranged hr).tables
  exact ⟨hs.settings.set number value, hs.tariff, hs.schedule, hs.minute⟩

theorem State.Fit.takePosition (h : s.Fit r m l) (number mode : Byte) : (s.takePosition number mode).Fit r m l := by
  unfold State.takePosition
  split
  · exact h.onBooth (fun _ hb => hb.deliverMode _) fun _ hb => hb.deliverMode _
  · exact h

theorem State.Fit.takeTableWord (h : s.Fit r m l) (table : TableBytes) : (s.takeTableWord table).Fit r m l := by
  unfold State.takeTableWord
  split
  · exact h.takeTariff ..
  · exact h.takeSchedule ..
  · exact h.takeSetting ..
  · exact h.takePosition ..
  · exact h

theorem State.Fit.headerArrival (h : s.Fit r m l) (frame : Byte) (minute : Word) (flags : Byte) (table : TableBytes) :
    ∃ t, execHeaderArrival frame minute flags table s = .next t ∧ t.Fit r m l := by
  refine ⟨_, rfl, h.inFrame ?_⟩
  have timed := (((h.reach 10).setPort { (s.reach 10).port with
    frameNumber := some frame, upHeader := some frame, downHeader := some (headerBytes frame minute flags table) }
    ).takeMinute minute)
  have restarted := State.Fit.ite (c := restartFlag flags = true) (fun _ => timed.restartReports) fun _ => timed
  exact .ite (fun _ => restarted.takeTableWord table) fun _ => restarted

/-! ## The charge tick (R36, R78, R79) -/

theorem reselect_le {p : Position} {rate : Nat} (h : s.TablesInRange) (hr : rate ≤ 4095) : s.reselect p rate ≤ 4095 := by
  unfold State.reselect
  split
  next he => exact (lookup_inRange h he).2
  next => exact hr

/-- A booth that is charged for a call: CHARGED, and neither in VACANT nor in CARD (R42). -/
structure Booth.ChargedCall (b : Booth) : Prop where
  charged : b.mode = .charged
  notVacant : b.state ≠ .vacant
  notCard : b.state ≠ .card

theorem Booth.Agrees.of_rate {b : Booth} (h : b.Agrees) (hrate : b.rate ≠ none) : b.ChargedCall := by
  refine ⟨?_, fun hv => hrate (h.restNoCall (.inl hv)).2, fun hc => hrate (h.restNoCall (.inr hc)).2⟩
  cases hmode : b.mode with
  | charged => rfl
  | free => exact absurd (h.freeNoCall hmode).2 hrate

theorem State.Fit.accrue {p : Position} {rate : Nat} (h : s.Fit r m l) (hrate : (s.booth p).rate = some rate) :
    (s.accrue p rate).Fit r m l := by
  have rated : ∀ x y z, (r → x ≤ 4095) → (r → y < 1024) → (r → z ≤ 65535) →
      (s.setBooth p { s.booth p with rate := some x, fraction := y, callUnits := z }).Fit r m l := by
    intro x y z hx hy hz
    refine h.setBooth (fun hr => ?_) fun hm => ?_
    · have rate : ∀ w, some x = some w → w ≤ 4095 := by
        rintro _ ⟨⟩
        exact hx hr
      exact { h.boothRange hr p with rate := rate, fraction := hy hr, callUnits := hz hr }
    · obtain ⟨hmode, hv, hc⟩ := (h.modes hm p).of_rate (by simp [hrate])
      exact Booth.agrees_of_charged hmode hv hc
  have accrued := rated (s.reselect p rate) (((s.booth p).fraction + s.reselect p rate) % 1024)
    (min 65535 ((s.booth p).callUnits + ((s.booth p).fraction + s.reselect p rate) / 1024))
    (fun hr => reselect_le (h.ranged hr).tables ((h.boothRange hr p).rate _ hrate))
    (fun _ => Nat.mod_lt _ (by decide)) (fun _ => min_le_left ..)
  have counted := accrued.addAccrued (((s.booth p).fraction + s.reselect p rate) / 1024)
  unfold State.accrue
  dsimp only
  split
  · exact counted
  · exact (counted.charge ..).evaluate p

theorem State.Fit.countGrace {p : Position} (h : s.Fit r m l) (hs : (s.booth p).state = .grace) :
    (s.countGrace p).Fit r m l := by
  refine .ite (fun _ => h.enterClearing _ (h.charged (.inr hs))) fun _ => h.onBooth fun _ hb => ?_
  exact { hb with grace := (Nat.sub_le ..).trans hb.grace }

/-- A tick's move leaves a clear-down timer in range (R16). -/
theorem ClearDown.inRange.move {x : ClearDown} (h : x.inRange) {hold : Nat} (hh : 1 ≤ hold ∧ hold ≤ 20) :
    (x.move hold).inRange := by
  cases x with
  | assert n =>
    simp only [ClearDown.inRange] at h
    simp only [ClearDown.move]
    split
    · simp [ClearDown.inRange]
    · simp only [ClearDown.inRange]
      omega
  | gap n =>
    simp only [ClearDown.inRange] at h
    simp only [ClearDown.move]
    split
    · exact hh
    · simp only [ClearDown.inRange]
      omega

theorem State.Fit.moveTimer (h : s.Fit r m l) (p : Position) : (s.moveTimer p).Fit r m l := by
  refine .ite (fun _ => h.onBooth fun hr hb => { hb with timer := fun x hx => ?_ }) fun _ => h
  obtain ⟨y, hy, rfl⟩ := Option.map_eq_some_iff.mp hx
  exact (hb.timer y hy).move (h.settings hr).clearDownHold

theorem State.Fit.tickBooth (h : s.Fit r m l) (p : Position) : (s.tickBooth p).Fit r m l := by
  unfold State.tickBooth
  extract_lets b s1 s2
  have accrued : s1.Fit r m l := by
    dsimp only [s1]
    split
    next rate hrate => exact h.accrue hrate
    next => exact h
  have counted : s2.Fit r m l := .ite (fun hs => accrued.countGrace hs.2) fun _ => accrued
  exact .ite (fun _ => counted.moveTimer p) fun _ => counted

end Sys2Proof.Machine

namespace Sys2Proof.Machine

variable {r m : Prop} {l : List Due} {s t : State}

/-! ### Age steps -/

/-- Dropping the units of an entry looks at no list. -/
theorem dropEntry_arrears (k : List ArrearsEntry) (s : State) (e : ArrearsEntry) (cause : EntryDropCause) :
    { s.dropEntry e cause with arrears := k } = { s with arrears := k }.dropEntry e cause := by
  unfold State.dropEntry State.placeIf State.place
  split_ifs <;> rfl

@[simp] theorem arrears_dropEntry (s : State) (e : ArrearsEntry) (cause : EntryDropCause) :
    (s.dropEntry e cause).arrears = s.arrears := by
  unfold State.dropEntry State.placeIf
  split <;> simp

/-- Expiries one after the other leave the entries whose serial none of them names (R79). -/
theorem arrears_foldl_expire (k : List ArrearsEntry) (s : State) :
    (k.foldl State.expire s).arrears = s.arrears.filter fun x => k.all fun e => x.serial ≠ e.serial := by
  induction k generalizing s with
  | nil => simp
  | cons e k ih => simp [ih, State.expire, withoutEntry, List.filter_filter, Bool.and_comm]

/-- In a list that names no serial twice, the entries whose serial no entry with a property carries are those without
the property. -/
theorem filter_serials_eq {k : List ArrearsEntry} (h : (k.map ArrearsEntry.serial).Nodup) (f : ArrearsEntry → Bool) :
    (k.filter fun x => (k.filter f).all fun e => x.serial ≠ e.serial) = k.filter fun x => !f x := by
  refine List.filter_congr fun x hx => ?_
  rw [Bool.eq_iff_iff]
  simp only [List.all_eq_true, List.mem_filter, decide_eq_true_eq, Bool.not_eq_true']
  constructor
  · intro hall
    exact Bool.eq_false_iff.mpr fun hf => hall x ⟨hx, hf⟩ rfl
  · rintro hf e ⟨he, hfe⟩ heq
    rw [List.inj_on_of_nodup_map h hx he heq, hfe] at hf
    exact Bool.noConfusion hf

/-- An age step leaves the entries that stay below the retention, each a step older (R78, R79). -/
theorem ageEntries_arrears (h : (s.arrears.map ArrearsEntry.serial).Nodup) :
    s.ageEntries.arrears = (s.arrears.map fun e => { e with age := e.age + 1 }).filter
      fun e => e.age < s.settings.retention := by
  unfold State.ageEntries
  dsimp only
  rw [arrears_foldl_expire]
  dsimp only
  rw [filter_serials_eq (by simpa [Function.comp_def] using h)]
  simp only [← not_le, decide_not]

theorem State.Fit.ageEntries (h : s.Fit r m l) : s.ageEntries.Fit r m l := by
  have fold : ∀ (k : List ArrearsEntry) (t : State), { t with arrears := [] }.Fit r m l →
      { k.foldl State.expire t with arrears := [] }.Fit r m l := by
    intro k
    induction k with
    | nil => exact fun _ ht => ht
    | cons e k ih =>
      refine fun t ht => ih _ ?_
      rw [State.expire, dropEntry_arrears]
      exact ht.dropEntry e _
  have emptied := fold ((s.arrears.map fun e => { e with age := e.age + 1 }).filter fun e => s.settings.retention ≤ e.age)
    { s with arrears := s.arrears.map fun e => { e with age := e.age + 1 } }
    (h.setArrears fun _ => ⟨Nat.zero_le _, List.nodup_nil, nofun⟩)
  refine emptied.setArrears (k := s.ageEntries.arrears) fun hr => ?_
  obtain ⟨hlen, hdistinct, hentries⟩ := (h.ranged hr).arrears
  rw [ageEntries_arrears hdistinct]
  refine ⟨(List.length_filter_le ..).trans (by simpa using hlen), ?_, fun e he => ?_⟩
  · refine List.Nodup.sublist (List.filter_sublist.map _) ?_
    simpa [Function.comp_def] using hdistinct
  · obtain ⟨hmem, hage⟩ := List.mem_filter.mp he
    obtain ⟨x, hx, rfl⟩ := List.mem_map.mp hmem
    have hret := (h.settings hr).retention.2
    have hold := hentries x hx
    simp only [decide_eq_true_eq] at hage
    exact { hold with age := by dsimp only; omega }

/-! ### The clocks -/

/-- An operation that writes the counts of the clock, and none of what contexts, list, queue and tables hold. -/
theorem State.Fit.of_clocks {l' : List Due} (h : s.Fit r m l)
    (hc : r → ClocksInRange l s.divider s.tickCount s.sup s.scan s.powerUp →
      ClocksInRange l' t.divider t.tickCount t.sup t.scan t.powerUp)
    (booths : t.booths = s.booths := by rfl) (slots : t.slots = s.slots := by rfl)
    (arrears : t.arrears = s.arrears := by rfl) (reports : t.reports = s.reports := by rfl)
    (lost : t.lost = s.lost := by rfl) (tables : SameTables s t := by exact ⟨rfl, rfl, rfl, rfl⟩) : t.Fit r m l' where
  ranged hr := by
    have hs := h.ranged hr
    refine ⟨TablesInRange.congr hs.tables tables, fun p => ?_, fun p => ?_, arrears ▸ hs.arrears, reports ▸ hs.reports,
      lost ▸ hs.lost, hc hr hs.clocks⟩
    · rw [State.booth, booths]
      exact hs.booths p
    · rw [State.slot, slots]
      exact hs.slots p
  modes hm p := by
    rw [State.booth, booths]
    exact h.modes hm p

/-- What has fallen due may be forgotten where it is named still. -/
theorem State.Fit.mono {l' : List Due} (h : s.Fit r m l) (ht : .tick ∈ l → .tick ∈ l' := by simp)
    (hs : .segment ∈ l → .segment ∈ l' := by simp) : s.Fit r m l' :=
  h.of_clocks fun _ hc => { hc with
    divider := fun hn => hc.divider (mt ht hn), segment := fun hn => hc.segment (mt hs hn) }

theorem State.Fit.toggleFlash (h : s.Fit r m l) : s.toggleFlash.Fit r m l := h.of_clocks fun _ hc => { hc with }

/-- The loss duration stays in its range (R145). -/
theorem Supervisor.tick_lossDuration_le {u : Supervisor} (h : u.lossDuration ≤ 65535) : u.tick.lossDuration ≤ 65535 := by
  unfold Supervisor.tick
  split
  · exact min_le_left ..
  · exact min_le_left ..
  all_goals exact h

theorem Supervisor.tick_frameTimer (u : Supervisor) : u.tick.frameTimer = u.frameTimer := by
  unfold Supervisor.tick
  split <;> rfl

theorem Supervisor.tick_lossTimer (u : Supervisor) : u.tick.lossTimer = u.lossTimer := by
  unfold Supervisor.tick
  split <;> rfl

/-- A tick starts the divider from 0, so that it is in range even where the tick had fallen due (R24). -/
theorem State.Fit.tick (h : s.Fit r m (.tick :: l)) : s.tick.Fit r m l := by
  have counted : State.Fit r m l { s with
      divider := 0, tickCount := (s.tickCount + 1) % Config.ticksPerAgeStep, sup := s.sup.tick } := by
    refine h.of_clocks fun _ hc => { hc with
      divider := fun _ => by simp, tickCount := Nat.mod_lt _ (by decide), frameTimer := ?_, lossTimer := ?_,
      lossDuration := Supervisor.tick_lossDuration_le hc.lossDuration, segment := fun hn => hc.segment (by simpa using hn) }
    · simpa [Supervisor.tick_frameTimer] using hc.frameTimer
    · simpa [Supervisor.tick_lossTimer] using hc.lossTimer
  have ticked := counted.forAll fun p t ht => State.Fit.tickBooth ht p
  have flashed := State.Fit.ite (c := (s.tickCount + 1) % Config.ticksPerAgeStep % Config.ticksPerFlashStep = 0)
    (fun _ => ticked.toggleFlash) fun _ => ticked
  exact .ite (fun _ => flashed.ageEntries) fun _ => flashed

/-! ## Frames and losses (R92, R93, R117, R142 to R149) -/

theorem State.Fit.noRecord (h : s.Fit r m l) (p : Position) : (s.onSlot p fun c => { c with record := none }).Fit r m l :=
  h.onSlot fun _ hc => { hc with sentValue := fun _ _ _ hx => by simp at hx }

theorem State.Fit.cutSlot (h : s.Fit r m l) (n : Nat) (p : Position) : (s.cutSlot n p).Fit r m l := by
  unfold State.cutSlot
  split
  · exact h
  next x hx =>
    dsimp only
    split
    · split
      next a v hv => exact (h.noRecord p).openRecord p x a fun hr => (h.slotRange hr p).sentValue x a v hx hv
      all_goals exact h.noRecord p
    · exact .ite (fun _ => (h.noRecord p).dropHeld p) fun _ => h.noRecord p

theorem State.Fit.cutFrame (h : s.Fit r m l) (cut : Nat) : (s.cutFrame cut).Fit r m l :=
  .ite (fun _ => (h.forAll fun p _ ht => ht.cutSlot _ p).setPort _) fun _ => h

theorem State.Fit.beginFrame (h : s.Fit r m l) : s.beginFrame.Fit r m l := by
  refine h.of_clocks fun _ hc => { hc with frameTimer := ?_ }
  rintro _ ⟨⟩
  exact Nat.zero_le _

theorem State.Fit.loseRecord (h : s.Fit r m l) (p : Position) : (s.loseRecord p).Fit r m l := by
  unfold State.loseRecord
  split
  · exact h
  next x hx =>
    refine .ite (fun _ => (h.clearRecord p).onBooth fun hr hb => { hb with pendingRes := ?_ }) fun _ => h.clearRecord p
    refine fun q hq => outPair_inRange (c := s.slot p) (h.boothRange hr p) (h.slotRange hr p) q ?_
    simp only at hq
    simp [outPair, hx, hq]

theorem Booth.InRange.loseCard {b : Booth} (h : b.InRange) : b.loseCard.InRange := by
  unfold Booth.loseCard
  split
  · have expected : ∀ n, (match b.serial with | some n => some n | none => b.expected) = some n → n < 4294967296 := by
      intro n hn
      split at hn
      next hx => exact h.serial n (hx.trans hn)
      next => exact h.expected n hn
    exact { h with expected := expected, serialHigh := forall_none, serialLow := forall_none, known := forall_none }
  · exact h

theorem Booth.Agrees.loseCard {b : Booth} (h : b.Agrees) : b.loseCard.Agrees := by
  unfold Booth.loseCard
  split
  · exact h.of_same
  · exact h

theorem State.Fit.losePosition (h : s.Fit r m l) (p : Position) : (s.losePosition p).Fit r m l := by
  refine State.Fit.onBooth (State.Fit.onSlot (h.loseRecord p) fun _ hc => ?_) (fun _ hb => hb.loseCard)
    fun _ hb => hb.loseCard
  exact { hc.noHeld with lock := Nat.zero_le _ }

theorem State.Fit.enterLost (h : s.Fit r m l) (cut : Nat) : (s.enterLost cut).Fit r m l := by
  have lost : ∀ (u : State) (x : Port), u.Fit r m l →
      { u with port := x, sup := { u.sup with highway := .lost, lossTimer := some 0, lossDuration := 0 } }.Fit
        r m l := by
    refine fun u x hu => hu.of_clocks fun _ hc => { hc with lossTimer := ?_, lossDuration := Nat.zero_le _ }
    rintro _ ⟨⟩
    exact Nat.zero_le _
  exact lost _ _ (((h.cutFrame cut).forAll fun p _ ht => State.Fit.losePosition ht p).place _)

theorem State.Fit.expireFrameTimer (h : s.Fit r m l) (cut : Nat) : (s.expireFrameTimer cut).Fit r m l := by
  have held : { s with sup := { s.sup with frameTimer := some Config.frameTimeoutPeriods } }.Fit r m l := by
    refine h.of_clocks fun _ hc => { hc with frameTimer := fun n hn => ?_ }
    obtain rfl : 24576 = n := by simpa using hn
    simp
  exact .ite (fun _ => held.enterLost cut) fun _ => held

theorem State.Fit.frameTimeout (h : s.Fit r m l) (cut : Nat) : ∃ t, execFrameTimeout cut s = .next t ∧ t.Fit r m l :=
  ⟨_, rfl, h.live (.ite (fun _ => h) fun _ => h.expireFrameTimer cut)⟩

theorem State.Fit.enterLongLost (h : s.Fit r m l) : s.enterLongLost.Fit r m l := by
  refine State.Fit.forAll (h.of_clocks fun _ hc => { hc with lossTimer := forall_none }) fun p t ht =>
    .ite (fun hclear => ht.enterClearing _ fun hm => (ht.modes hm p).charged ?_ ?_ ?_) fun _ => ht
  all_goals
    intro hs
    simp [Booth.longLostClears, hs] at hclear

theorem State.Fit.lowerLock (h : s.Fit r m l) (p : Position) : (s.lowerLock p).Fit r m l := by
  have lowered := h.setLock (n := (s.slot p).lock - 1) p fun hr => (Nat.sub_le ..).trans (h.slotRange hr p).lock
  exact .ite (fun _ => h) fun _ => .ite (fun _ => lowered.place _) fun _ => lowered

theorem State.Fit.countFrame (h : s.Fit r m l) (p : Position) : (s.countFrame p).Fit r m l := by
  refine h.onSlot fun _ hc => { hc with inFlight := ?_, sentValue := fun _ _ _ hx => by simp at hx }
  intro x hx
  obtain ⟨y, hy, rfl⟩ := Option.map_eq_some_iff.mp hx
  exact { hc.inFlight y hy with frames := min_le_left .. }

theorem State.Fit.timeOut (h : s.Fit r m l) (p : Position) : (s.timeOut p).Fit r m l :=
  .ite (fun _ => h.declareFault p) fun _ => h

theorem State.Fit.completeFrame (h : s.Fit r m l) : s.completeFrame.Fit r m l := by
  have restored := h.place (.ofRow .highwayRestored 0 s.sup.lossDuration)
  have running : State.Fit r m l { s.place (.ofRow .highwayRestored 0 s.sup.lossDuration) with
      sup := { (s.place (.ofRow .highwayRestored 0 s.sup.lossDuration)).sup with
        highway := .running, lossTimer := none } } :=
    restored.of_clocks fun _ hc => { hc with lossTimer := forall_none }
  have started : { s with sup := { s.sup with highway := .running } }.Fit r m l := h.of_clocks fun _ hc => { hc with }
  unfold State.completeFrame
  split
  · exact h
  · exact .ite (fun _ => started.enterLost 0) fun _ => started
  all_goals exact .ite (fun _ => running.enterLost 0) fun _ => running

theorem State.Fit.frameEnd (h : s.Fit r m l) (trailer : TenBytes) :
    ∃ t, execFrameEnd trailer s = .next t ∧ t.Fit r m l := by
  refine ⟨_, rfl, h.inFrame ?_⟩
  have ended := (h.reach 152).setPort { (s.reach 152).port with inProgress := false, downTrailer := some trailer }
  exact (((ended.forAll fun p _ ht => State.Fit.lowerLock ht p).forAll fun p _ ht => State.Fit.countFrame ht p).forAll
    fun p _ ht => State.Fit.timeOut ht p).completeFrame

theorem State.Fit.trailer (h : s.Fit r m l) (sent n : Nat) :
    ((((s.reach n).beginTrailer).giveUpRecord sent).emitTrailer sent).Fit r m l := by
  have begun : (s.reach n).beginTrailer.Fit r m l := by
    unfold State.beginTrailer
    split
    · exact h.reach n
    · exact (h.reach n).setPort _
  have given : (((s.reach n).beginTrailer).giveUpRecord sent).Fit r m l := by
    refine .ite (fun _ => ⟨fun hr => ?_, begun.modes⟩) fun _ => begun
    have hs := begun.ranged hr
    have shorter : (s.reach n).beginTrailer.reports.tail.length ≤ 32 := by
      have hle := hs.reports
      rw [List.length_tail]
      omega
    exact ⟨TablesInRange.congr hs.tables ⟨rfl, rfl, rfl, rfl⟩, hs.booths, hs.slots, hs.arrears, shorter, hs.lost,
      hs.clocks⟩
  exact given.setPort _

/-! ## The line scan (R129 to R134) -/

theorem State.Fit.loopEvent {p : Position} (h : s.Fit r m l) (hm : m → (s.booth p).mode = .charged) (e : LineEvent) :
    (s.loopEvent p e).Fit r m l := by
  cases e with
  | first high =>
    refine .ite (fun _ => State.Fit.checkResume (h.onBooth fun _ hb => { hb with }) ?_) fun _ => h
    simpa using hm
  | rise => exact h
  | fall => exact h.lineFall p

theorem State.Fit.answerEvent {p : Position} (h : s.Fit r m l) (hm : m → (s.booth p).mode = .charged) (e : LineEvent) :
    (s.answerEvent p e).Fit r m l := by
  cases e with
  | first high =>
    refine .ite (fun _ => State.Fit.checkResume (h.onBooth fun _ hb => { hb with }) ?_) fun _ => h
    simpa using hm
  | rise => exact .ite (fun _ => h.answerRise hm) fun _ => h
  | fall => exact h.lineFall p

theorem State.Fit.deliver {p : Position} {act : State → LineEvent → State} (h : s.Fit r m l) (e : Option LineEvent)
    (ha : (m → (s.booth p).mode = .charged) → ∀ x, (act s x).Fit r m l) : (s.deliver p e act).Fit r m l := by
  unfold State.deliver
  split
  · exact h
  · refine .ite (fun _ => h) fun hmode => ha (fun _ => ?_) _
    cases hx : (s.booth p).mode with
    | charged => rfl
    | free => exact absurd hx hmode

/-- A run held between samples is below the debounce count, so below 8 (R132). -/
theorem Debounce.sample_runCount_le {d : Nat} (hd : d ≤ 8) (x : Debounce) (level : Bool) :
    (x.sample d level).1.runCount ≤ 7 := by
  unfold Debounce.sample
  dsimp only
  split
  · exact Nat.zero_le _
  · generalize (if 0 < x.runCount ∧ level = x.runLevel then x.runCount + 1 else 1) = count
    split
    · exact Nat.zero_le _
    · dsimp only
      omega

theorem runCount_set_le {v : Vector Debounce 24} {p q : Position} {x : Debounce} (h : v[q].runCount ≤ 7)
    (hx : x.runCount ≤ 7) : (v.set p.val x p.isLt)[q].runCount ≤ 7 := by
  simp only [Fin.getElem_fin, Vector.getElem_set]
  split
  · exact hx
  · exact h

theorem State.Fit.sampleLoop (h : s.Fit r m l) (p : Position) (level : Bool) : (s.sampleLoop p level).Fit r m l := by
  have written : { s with scan := { s.scan with
      loop := s.scan.loop.set p.val ((s.loop p).sample s.settings.debounceCount level).1 p.isLt } }.Fit r m l :=
    h.of_clocks fun hr hc => { hc with
      loopRun := fun q => runCount_set_le (hc.loopRun q) (Debounce.sample_runCount_le (h.settings hr).debounceCount.2 ..) }
  exact written.deliver (act := fun s e => s.loopEvent p e) _ fun hm x => written.loopEvent hm x

theorem State.Fit.sampleAnswer (h : s.Fit r m l) (p : Position) (level : Bool) : (s.sampleAnswer p level).Fit r m l := by
  have written : { s with scan := { s.scan with
      answer := s.scan.answer.set p.val ((s.answerLine p).sample s.settings.debounceCount level).1 p.isLt } }.Fit
      r m l :=
    h.of_clocks fun hr hc => { hc with
      answerRun := fun q => runCount_set_le (hc.answerRun q)
        (Debounce.sample_runCount_le (h.settings hr).debounceCount.2 ..) }
  exact written.deliver (act := fun s e => s.answerEvent p e) _ fun hm x => written.answerEvent hm x

theorem State.Fit.sampleColumn (h : s.Fit r m l) (hs : s.scan.segment = .sense) (rows : RowInputs) :
    (s.sampleColumn rows).Fit r m l := by
  have ended : { s with scan := s.scan.endSense }.Fit r m l :=
    h.of_clocks fun _ hc => { hc with segment := fun _ _ => ⟨Nat.le_refl _, fun _ => ⟨hs, rfl⟩⟩ }
  exact List.foldlRecOn _ _ ended fun t ht p _ => (State.Fit.sampleLoop ht p _).sampleAnswer p _

theorem sameRest_loopEvent (s : State) (p : Position) (e : LineEvent) : SameRest s (s.loopEvent p e) := by
  cases e with
  | first high =>
    simp only [State.loopEvent]
    split
    · exact (sameRest_onBooth ..).trans (localAt_checkResume ..).rest
    · exact SameRest.refl s
  | rise => exact SameRest.refl s
  | fall => exact sameRest_lineFall ..

theorem sameRest_answerEvent (s : State) (p : Position) (e : LineEvent) : SameRest s (s.answerEvent p e) := by
  cases e with
  | first high =>
    simp only [State.answerEvent]
    split
    · exact (sameRest_onBooth ..).trans (localAt_checkResume ..).rest
    · exact SameRest.refl s
  | rise =>
    simp only [State.answerEvent]
    split
    · exact (localAt_answerRise ..).rest
    · exact SameRest.refl s
  | fall => exact sameRest_lineFall ..

theorem sameRest_deliver {act : State → LineEvent → State} (h : ∀ s x, SameRest s (act s x)) (s : State) (p : Position)
    (e : Option LineEvent) : SameRest s (s.deliver p e act) := by
  unfold State.deliver
  split
  · exact SameRest.refl s
  · split
    · exact SameRest.refl s
    · exact h ..

/-- A sample of LOOP leaves the rest of the part alone but for the debounce record (R132). -/
theorem sampleLoop_rest (s : State) (p : Position) (level : Bool) :
    SameRest { s with scan := { s.scan with
      loop := s.scan.loop.set p.val ((s.loop p).sample s.settings.debounceCount level).1 p.isLt } }
      (s.sampleLoop p level) := sameRest_deliver (fun _ _ => sameRest_loopEvent ..) _ p _

/-- A sample of ANSWER leaves the rest of the part alone but for the debounce record (R132). -/
theorem sampleAnswer_rest (s : State) (p : Position) (level : Bool) :
    SameRest { s with scan := { s.scan with
      answer := s.scan.answer.set p.val ((s.answerLine p).sample s.settings.debounceCount level).1 p.isLt } }
      (s.sampleAnswer p level) := sameRest_deliver (fun _ _ => sameRest_answerEvent ..) _ p _

theorem SameRest.scan {s t : State} (h : SameRest s t) : t.scan = s.scan := by
  obtain ⟨_, ⟨_, _, scan, _⟩, _⟩ := h
  exact scan

/-- Two scanners alike but for their debounce records. -/
structure Scanner.SameScan (x y : Scanner) : Prop where
  column : y.column = x.column
  segment : y.segment = x.segment
  sampled : y.sampled = x.sampled
  stepSetting : y.stepSetting = x.stepSetting
  elapsed : y.elapsed = x.elapsed
  flash : y.flash = x.flash

/-- The samples of one booth leave the scanner alone but for the two debounce records (R130, R132). -/
theorem sampleBooth_scan (rows : Byte) (s : State) (p : Position) : s.scan.SameScan (s.sampleBooth rows p).scan := by
  unfold State.sampleBooth
  rw [(sampleAnswer_rest ..).scan, (sampleLoop_rest ..).scan]
  exact ⟨rfl, rfl, rfl, rfl, rfl, rfl⟩

/-- A sample ends its sense segment and moves debounce records, and nothing else of the scanner (R130, R132). -/
theorem sampleColumn_scan (s : State) (rows : RowInputs) : s.scan.endSense.SameScan (s.sampleColumn rows).scan := by
  unfold State.sampleColumn
  generalize columnPositions s.scan.column = k
  have kept : ∀ t : State, t.scan.SameScan (k.foldl (State.sampleBooth (rowsRead rows)) t).scan := by
    induction k with
    | nil => exact fun _ => ⟨rfl, rfl, rfl, rfl, rfl, rfl⟩
    | cons p k ih =>
      intro t
      have one := sampleBooth_scan (rowsRead rows) t p
      have rest := ih (t.sampleBooth (rowsRead rows) p)
      exact ⟨rest.column.trans one.column, rest.segment.trans one.segment, rest.sampled.trans one.sampled,
        rest.stepSetting.trans one.stepSetting, rest.elapsed.trans one.elapsed, rest.flash.trans one.flash⟩
  exact kept { s with scan := s.scan.endSense }

end Sys2Proof.Machine

namespace Sys2Proof.Machine

variable {r m : Prop} {l : List Due} {s t : State}

theorem State.Fit.draw (h : s.Fit r m l) (n : Nat) : { s with draws := n }.Fit r m l := h.of_clocks fun _ hc => hc

theorem State.Fit.takeSample (h : s.Fit r m l) (hs : s.scan.segment = .sense) : s.takeSample.Fit r m l := by
  unfold State.takeSample
  split
  · exact h
  · have drawn : { s with draws := s.draws + 1 }.Fit r m l := h.draw _
    exact State.Fit.sampleColumn (s := { s with draws := s.draws + 1 }) drawn hs
      { driven := Config.rowsDriven s.draws, level := Config.lineLevels s.draws }

/-- A sample taken of free inputs leaves the segment and the step setting alone. -/
theorem takeSample_segment (s : State) :
    s.takeSample.scan.segment = s.scan.segment ∧ s.takeSample.scan.stepSetting = s.scan.stepSetting := by
  unfold State.takeSample
  split
  · exact ⟨rfl, rfl⟩
  · have same := sampleColumn_scan { s with draws := s.draws + 1 }
      { driven := Config.rowsDriven s.draws, level := Config.lineLevels s.draws }
    exact ⟨same.segment, same.stepSetting⟩

/-- A drive segment counts from 0, so that its count is in range even where the segment before had fallen due (R129). -/
theorem State.Fit.startDrive (h : s.Fit r m (.segment :: l)) (hs : s.scan.segment ≠ .off) : s.startDrive.Fit r m l := by
  refine h.of_clocks fun _ hc => { hc with
    divider := fun hn => hc.divider (by simpa using hn), stepSetting := fun _ => hc.stepSetting hs,
    segment := fun _ _ => ?_ }
  have hstep := hc.stepSetting hs
  simp only [State.startDrive]
  omega

/-- A step counts from 0 with the setting as it stands (R129). -/
theorem State.Fit.startStep (h : s.Fit r m (.segment :: l)) (column : Fin 6) : (s.startStep column).Fit r m l := by
  refine h.of_clocks fun hr hc => { hc with
    divider := fun hn => hc.divider (by simpa using hn), stepSetting := fun _ => (h.settings hr).scanStep,
    segment := fun _ _ => ?_ }
  have hstep := (h.settings hr).scanStep
  simp only [State.startStep]
  omega

theorem State.Fit.endSegment (h : s.Fit r m (.segment :: l)) : s.endSegment.Fit r m l := by
  unfold State.endSegment
  split
  next hoff => exact h.of_clocks fun _ hc => { hc with
    divider := fun hn => hc.divider (by simpa using hn), segment := fun _ hn => absurd hoff hn }
  next hsense => exact (h.takeSample hsense).startDrive (by simp [takeSample_segment, hsense])
  next => exact h.startStep _

theorem State.Fit.scanStepStart (h : s.Fit r m l) : ∃ t, execScanStepStart s = .next t ∧ t.Fit r m l := by
  refine ⟨_, rfl, h.live ?_⟩
  split
  next => exact h
  next hsense => exact ((h.takeSample hsense).mono).startStep _
  next => exact h.mono.startStep _

theorem State.Fit.driveSegment (h : s.Fit r m l) : ∃ t, execDriveSegment s = .next t ∧ t.Fit r m l := by
  refine ⟨_, rfl, h.live (.ite (fun hsense => ?_) fun _ => h)⟩
  exact ((h.takeSample hsense).mono).startDrive (by simp [takeSample_segment, hsense])

/-! ## Resets (R23, R77, R179) -/

theorem Booth.powerOn_inRange : Booth.powerOn.InRange where
  serialHigh := forall_none
  serialLow := forall_none
  expected := forall_none
  lastSerial := forall_none
  known := forall_none
  rate := forall_none
  fraction := by decide
  owed := by decide
  callUnits := by decide
  pendingRes := forall_none
  grace := by decide
  timer := forall_none

theorem Booth.warm_inRange (b : Booth) : b.warm.InRange := { Booth.powerOn_inRange with }

theorem Booth.warm_agrees (b : Booth) : b.warm.Agrees := Booth.agrees_of_noCall rfl rfl (.inl rfl)

theorem Intercept.powerOn_inRange : Intercept.powerOn.InRange where
  inFlight := forall_none
  lock := by decide
  tries := forall_none
  heldValue _ _ h := nomatch h
  sentValue _ _ _ h := nomatch h

theorem Settings.defaults_inRange : Settings.defaults.InRange := by
  constructor <;> decide

/-- The clocks at a reset are in range (R24, R139, R141). -/
theorem clocksInRange_reset {powerUp : Option Nat} (h : ∀ n, powerUp = some n → n ≤ 4096) :
    ClocksInRange l 0 0 Supervisor.reset Scanner.reset powerUp where
  divider _ := by decide
  tickCount := by decide
  frameTimer := forall_none
  lossTimer := forall_none
  lossDuration := by decide
  stepSetting h := absurd rfl h
  segment _ h := absurd rfl h
  loopRun p := by simp [Scanner.reset, Debounce.reset]
  answerRun p := by simp [Scanner.reset, Debounce.reset]
  powerUp := h

theorem booth_powerOn (p : Position) : State.powerOn.booth p = Booth.powerOn := by simp [State.booth, State.powerOn]

theorem slot_powerOn (p : Position) : State.powerOn.slot p = Intercept.powerOn := by simp [State.slot, State.powerOn]

theorem powerOn_fit : State.powerOn.Fit r m l where
  ranged _ := by
    refine ⟨⟨Settings.defaults_inRange, ?_, ?_, forall_none⟩, fun p => ?_, fun p => ?_,
      ⟨Nat.zero_le _, List.nodup_nil, nofun⟩, Nat.zero_le _, Nat.zero_le _, clocksInRange_reset ?_⟩
    · simp [State.powerOn]
    · simp [State.powerOn]
    · exact booth_powerOn p ▸ Booth.powerOn_inRange
    · exact slot_powerOn p ▸ Intercept.powerOn_inRange
    · rintro _ ⟨⟩
      exact Nat.zero_le _
  modes _ p := booth_powerOn p ▸ Booth.agrees_of_noCall rfl rfl (.inl rfl)

/-- What a warm reset has opened at `n` positions: a list in range, and at most one record for each (R77). -/
structure WarmSum.InRange (n : Nat) (x : WarmSum) : Prop where
  arrears : ListInRange x.arrears
  opened : x.opened.length ≤ n

theorem warmBooth_inRange {n : Nat} {x : WarmSum} (h : s.Ranged l) (hx : x.InRange n) (p : Position) :
    (warmBooth (s.booth p) (s.slot p) p x).InRange (n + 1) := by
  have hn := hx.opened
  unfold warmBooth
  dsimp only
  split
  · exact ⟨hx.arrears, hn.trans (Nat.le_succ _)⟩
  · split
    · exact ⟨hx.arrears, hn.trans (Nat.le_succ _)⟩
    next serial hserial =>
      refine ⟨openEntry_inRange hx.arrears p ⟨?_, (h.booths p).owed, outPair_inRange (h.booths p) (h.slots p)⟩, ?_⟩
      · exact fun y hy => (h.booths p).debtSerial y (hserial.trans hy)
      · simpa using hn

/-- The debts of the booths leave the list of a warm reset in range, with at most one opening for each booth (R77). -/
theorem warmSum_inRange (h : s.Ranged l) : s.warmSum.InRange 24 := by
  have opened : ∀ (k : List Position) (n : Nat) (x : WarmSum), x.InRange n →
      (k.foldl (fun x p => warmBooth (s.booth p) (s.slot p) p x) x).InRange (n + k.length) := by
    intro k
    induction k with
    | nil => exact fun n x hx => hx
    | cons p k ih =>
      intro n x hx
      have all := ih _ _ (warmBooth_inRange h hx p)
      rwa [Nat.add_right_comm, Nat.add_assoc] at all
  simpa [State.warmSum, positions] using opened positions 0 ⟨s.arrears, 0, []⟩ ⟨h.arrears, Nat.le_refl _⟩

/-- The passes that write the booths of a warm reset leave the tables alone (R23). -/
theorem warmBooths_rest (s : State) : SameRest s s.warmBooths := sameRest_forAll (fun _ _ => sameRest_onBooth ..) s

theorem slot_warm (s : State) (p : Position) : s.warm.slot p = Intercept.powerOn := by simp [State.slot, State.warm]

/-- A warm reset keeps the tables, the settings and the minute (R23, R163). -/
theorem sameTables_warm (s : State) : SameTables s s.warm := by
  have rest := (warmBooths_rest s).1
  unfold State.warm
  generalize s.warmBooths = t at rest
  exact rest

theorem State.Fit.warm (h : s.Fit r m l) : s.warm.Fit r m l where
  ranged hr := by
    have hs := h.ranged hr
    obtain ⟨hlist, hlen⟩ := warmSum_inRange hs
    refine ⟨?_, fun p => ?_, fun p => ?_, ?_, ?_, ?_, ?_⟩
    · exact TablesInRange.congr hs.tables (sameTables_warm s)
    · rw [warm_booth]
      exact Booth.warm_inRange _
    · rw [slot_warm]
      exact Intercept.powerOn_inRange
    · exact hlist
    · simp only [State.warm, List.length_cons]
      omega
    · simp [State.warm]
    · exact clocksInRange_reset forall_none
  modes _ p := by
    rw [warm_booth]
    exact Booth.warm_agrees _

theorem State.Fit.warmReset (h : s.Fit r m l) (periods : Nat) : ∃ t, execWarmReset periods s = .next t ∧ t.Fit r m l := by
  have pulsed : (s.resetPulse periods).Fit r m l :=
    .ite (fun _ => h) fun _ => .ite (fun _ => h.warm) fun _ => .ite (fun _ => (h.draw _).warm) fun _ => h.draw _
  have lowered : (s.lowerLine periods).Fit r m l := .ite (fun _ => h) fun _ => h.of_clocks fun _ hc => hc
  exact ⟨_, rfl, .ite (fun _ => lowered) fun _ => pulsed⟩

/-- The release of a reset starts the divider and the scan (R24, R139). -/
theorem State.Fit.release (h : s.Fit r m l) (strap : Bool) : (s.release strap).Fit r m l := by
  have started : { s with resetAsserted := false, powerUp := none, strap := some strap, divider := 0 }.Fit r m l :=
    h.of_clocks fun _ hc => { hc with divider := fun _ => by simp, powerUp := forall_none }
  exact started.mono.startStep 0

theorem State.Fit.resetRelease (h : s.Fit r m l) (strap : Bool) :
    ∃ t, execResetRelease strap s = .next t ∧ t.Fit r m l := by
  have high : { s with lineLow := false }.Fit r m l := h.of_clocks fun _ hc => hc
  exact ⟨_, rfl, .ite (fun _ => .ite (fun _ => high) fun _ => high.release strap) fun _ => h⟩

theorem State.Fit.holdPeriod (h : s.Fit r m l) : s.holdPeriod.Fit r m l := by
  unfold State.holdPeriod
  split
  · exact h
  next n _ =>
    have held : { s with powerUp := some (min Config.powerUpPeriods (n + 1)) }.Fit r m l := by
      refine h.of_clocks fun _ hc => { hc with powerUp := fun k hk => ?_ }
      obtain rfl := Option.some.inj hk
      exact min_le_left ..
    exact .ite (fun _ => held) fun _ => (held.draw _).release _

/-! ## The clock (R24, R129, R142, R146) -/

/-- The things due in a period are put in some order (log entry 3). -/
theorem orderDue_perm (n draw : Nat) (l : List Due) : (orderDue n draw l).Perm l := by
  induction n generalizing draw l with
  | zero =>
    match l with
    | [] | [_] | _ :: _ :: _ => exact List.Perm.refl _
  | succ n ih =>
    match l with
    | [] | [_] => exact List.Perm.refl _
    | x :: y :: l =>
      simp only [orderDue]
      have hlt : Config.dueOrder draw % (l.length + 2) < (x :: y :: l).length := Nat.mod_lt _ (Nat.succ_pos _)
      rw [List.getD_eq_getElem _ _ hlt]
      exact ((ih ..).cons _).trans (List.getElem_cons_eraseIdx_perm hlt)

theorem State.Fit.happen {d : Due} (h : s.Fit r m (d :: l)) : (s.happen d).Fit r m l := by
  cases d with
  | frameTimer => exact (h.mono).expireFrameTimer 0
  | lossTimer => exact .ite (fun _ => (h.mono).enterLongLost) fun _ => h.mono
  | tick => exact h.tick
  | segment => exact h.endSegment

/-- Once everything due has happened, no count is out of its range. -/
theorem State.Fit.foldl_happen (h : s.Fit r m l) : (l.foldl State.happen s).Fit r m [] := by
  induction l generalizing s with
  | nil => exact h
  | cons d l ih => exact ih h.happen

/-- A period takes a count out of its range only for a thing that then falls due (R24, R129, R141). -/
theorem State.Fit.countPeriod (h : s.Fit r m []) {k : List Due} (hk : k.Perm s.due) : s.countPeriod.Fit r m k := by
  have limited : ∀ (limit : Nat) (t : Option Nat) n, countTimer limit t = some n → n ≤ limit := by
    intro limit t n hn
    obtain ⟨y, _, rfl⟩ := Option.map_eq_some_iff.mp hn
    exact min_le_left ..
  refine h.of_clocks fun _ hc => { hc with
    divider := fun hn => ?_, frameTimer := limited _ _, lossTimer := limited _ _, segment := fun hn hs => ?_ }
  · rw [hk.mem_iff] at hn
    by_contra hge
    refine hn ?_
    have due : 204800 ≤ s.divider + 1 := Nat.le_of_not_lt hge
    simp [State.due, due]
  · rw [hk.mem_iff] at hn
    have early : ¬ s.scan.stepSetting * 128 ≤ s.scan.elapsed + 1 := by
      intro hle
      refine hn ?_
      have due : s.scan.segmentDue = true := by
        simp only [Scanner.segmentDue, decide_eq_true_eq]
        exact ⟨hs, hle⟩
      simp [State.due, due]
    refine ⟨(Nat.lt_of_not_le early).le, fun heq => absurd heq.ge early⟩

theorem State.Fit.clockPeriod (h : s.Fit r m []) : s.clockPeriod.Fit r m [] := by
  refine .ite (fun _ => h.holdPeriod) fun _ => ?_
  have left : s.leaveSense.Fit r m [] :=
    .ite (fun hs => (h.mono (l' := [.segment])).startDrive (by simp [hs.1])) fun _ => h
  exact State.Fit.foldl_happen ((left.countPeriod (orderDue_perm 4 s.leaveSense.draws s.leaveSense.due)).draw _)

/-! ## Every command -/

theorem exec_fit (h : s.Fit r m []) (c : Instr) : ∃ t, exec c s = .next t ∧ t.Fit r m [] := by
  cases c with
  | powerOnReset => exact ⟨_, rfl, powerOn_fit.of_clocks fun _ hc => hc⟩
  | warmReset periods => exact h.warmReset periods
  | frameStart cut => exact ⟨_, rfl, h.live (h.cutFrame cut).beginFrame⟩
  | headerArrival frame minute flags table => exact h.headerArrival frame minute flags table
  | restart => exact ⟨_, rfl, h.live h.restartReports⟩
  | tariff band period charge rate => exact ⟨_, rfl, h.live (h.takeTariff ..)⟩
  | schedule slot minute period => exact ⟨_, rfl, h.live (h.takeSchedule ..)⟩
  | setting number value => exact ⟨_, rfl, h.live (h.takeSetting ..)⟩
  | position number mode => exact ⟨_, rfl, h.live (h.takePosition ..)⟩
  | null p => exact ⟨_, rfl, h.arrive p fun h => h.decideNull p⟩
  | read p a rest => exact ⟨_, rfl, h.arrive p fun h => h.sendRead ..⟩
  | write p a v c => exact ⟨_, rfl, h.arrive p fun h => h.vetted ..⟩
  | protectedWrite p a v c => exact ⟨_, rfl, h.arrive p fun h => h.vetted ..⟩
  | lockedRead p a rest =>
    exact ⟨_, rfl, h.arrive p fun h => (h.setLock p fun hr => (h.settings hr).lockLimit.2).sendRead ..⟩
  | unlock p => exact ⟨_, rfl, h.arrive p fun h => (h.setLock p fun _ => Nat.zero_le _).sendNull ..⟩
  | unknownKind p code => exact ⟨_, rfl, h.arrive p fun h => h.kill ..⟩
  | absent | ready | data | accepted | busy | written | error | unknownStatus => exact ⟨_, rfl, h.reply ..⟩
  | frameEnd trailer => exact h.frameEnd trailer
  | lockExpired p => exact ⟨_, rfl, h.live (.ite (fun _ => h.lowerLock p) fun _ => h)⟩
  | writeTimeout p => exact ⟨_, rfl, h.live (.ite (fun _ => h.declareFault p) fun _ => h)⟩
  | trailerRecord sent => exact ⟨_, rfl, h.live (.ite (fun _ => h.trailer ..) fun _ => h)⟩
  | frameTimeout cut => exact h.frameTimeout cut
  | longLost => exact ⟨_, rfl, h.live (.ite (fun _ => h.enterLongLost) fun _ => h)⟩
  | chargeTick => exact ⟨_, rfl, h.live h.mono.tick⟩
  | graceExpired p => exact ⟨_, rfl, h.live (.ite (fun hs => h.countGrace hs.1) fun _ => h)⟩
  | clearDownAssertEnd p => exact ⟨_, rfl, h.live (.ite (fun _ => h.moveTimer p) fun _ => h)⟩
  | clearDownGapEnd p => exact ⟨_, rfl, h.live (.ite (fun _ => h.moveTimer p) fun _ => h)⟩
  | flashStep => exact ⟨_, rfl, h.live h.toggleFlash⟩
  | ageStep => exact ⟨_, rfl, h.live h.ageEntries⟩
  | arrearsExpiry serial =>
    refine ⟨_, rfl, h.live ?_⟩
    split
    · exact .ite (fun _ => h.expire _) fun _ => h
    · exact h
  | scanStepStart => exact h.scanStepStart
  | senseSample rows => exact ⟨_, rfl, h.live (.ite (fun hs => h.sampleColumn hs.1 rows) fun _ => h)⟩
  | driveSegment => exact h.driveSegment
  | resetRelease strap => exact h.resetRelease strap

/-- Every step keeps the ranges, where they hold, and the agreement of modes and states, where it holds. -/
theorem step_fit (h : s.Fit r m []) (hstep : step s = .next t) : t.Fit r m [] := by
  unfold step at hstep
  split at hstep
  next => exact Host.Outcome.next.inj hstep ▸ h.clockPeriod
  next c rest _ =>
    have queued : { s with pending := rest }.Fit r m [] := h.of_clocks fun _ hc => hc
    obtain ⟨u, hu, hfit⟩ := exec_fit queued c
    exact Host.Outcome.next.inj (hu.symm.trans hstep) ▸ hfit

/-- Settles O54: of what a step keeps, the ranges. -/
theorem everyStepKeepsRanges : Obligations.EveryStepKeepsRanges := by
  intro s t hs hstep
  have fit : s.Fit True False [] := ⟨fun _ => ranged_nil_iff.mpr hs, nofun⟩
  exact ranged_nil_iff.mp ((step_fit fit hstep).ranged trivial)

/-- Settles O56: of what a step keeps, the agreement of modes and states. -/
theorem everyStepKeepsModesAndStatesAgreed : Obligations.EveryStepKeepsModesAndStatesAgreed := by
  intro s t hs hstep
  have fit : s.Fit False True [] := ⟨nofun, fun _ => modesAgree_iff.mp hs⟩
  exact modesAgree_iff.mpr ((step_fit fit hstep).modes trivial)

end Sys2Proof.Machine

/-! Every step keeps the account of units (R66) and leaves available credit evaluated (R3, R12, R14).

Both invariants are followed at once through every operation. Between the parts of an operation at a position they hold
but for something: `Terms` says at each position what holds in full and what does not, and a number says how many units
are on their way, counted in no booth, no entry and no total of the account. -/

namespace Sys2Proof.Machine

/-! ## What is agreed at a position -/

/-- Available credit has been evaluated at one position (R3, R12, R14). -/
structure SettledAt (b : Booth) (c : Intercept) : Prop where
  call : ∀ n, b.state = .call → credit b c = some n → 0 < n
  grace : ∀ n, b.state = .grace → b.present = .yes → b.serial.isSome = true → credit b c = some n → n ≤ 0

/-- What is known of a slot record: it is sound, nothing, that it holds no write, or that it is gone. -/
inductive RecordRule where
  | sound | any | noWrite | gone

def RecordRule.ok (x : RecordRule) (b : Booth) (c : Intercept) : Prop :=
  match x with
  | .sound => ∀ r, c.record = some r → r.sound b c
  | .any => True
  | .noWrite => ∀ r, c.record = some r → ∀ a v, r.sent ≠ .write a v
  | .gone => c.record = none

/-- What holds at a position between the parts of an operation: the rule for its slot record; whether credit has been
evaluated, whether a pending resolution is settled where the balance is known, whether the booth is out of FAULT and
whether its card is present; and how many units return to W, which a held WRITE may count on. -/
structure Terms where
  rule : RecordRule
  settled : Prop
  resolved : Prop
  alive : Prop
  present : Prop
  slack : Nat

/-- The terms hold of the contexts of a position. -/
structure Terms.Hold (t : Terms) (b : Booth) (c : Intercept) : Prop where
  noCard : b.present ≠ .yes → b.known = none ∧ b.pendingRes = none ∧ c.k = 0 ∧ c.held = none
  bounded : ∀ n, b.known = some n → n ≤ 65535
  resolved : t.resolved → b.known ≠ none → b.pendingRes = none
  fault : b.state = .fault → b.serialHigh = none ∧ b.serialLow = none ∧ b.known = none ∧ b.pendingRes = none ∧
    c.held = none ∧ ∀ r, c.inFlight = some r → r.word ≠ 4
  inFlight : ∀ r, c.inFlight = some r → r.sound b
  held : ∀ h, c.held = some h → h.sound b (c.k + t.slack)
  record : t.rule.ok b c
  credit : t.settled → SettledAt b c
  alive : t.alive → b.state ≠ .fault
  present : t.present → b.present = .yes

/-- The terms hold at every position, the list names no serial twice, and `n` units are on their way (R66). -/
structure State.Books (x : Position → Terms) (n : Nat) (s : State) : Prop where
  each : ∀ q, (x q).Hold (s.booth q) (s.slot q)
  distinct : (s.arrears.map ArrearsEntry.serial).Nodup
  balance : s.ledger.accrued = s.unitsHeld + s.ledger.debited + s.ledger.dropped + n

/-- Terms that leave credit to be evaluated. -/
def Terms.unsettled (t : Terms) : Terms := { t with settled := False }

/-- Terms that leave a pending resolution to be settled. -/
def Terms.unresolved (t : Terms) : Terms := { t with settled := False, resolved := False }

/-- Terms on which `m` units return to W. -/
def Terms.returning (t : Terms) (m : Nat) : Terms := { t with settled := False, slack := t.slack + m }

/-- The terms `t` at `p`, those of `x` elsewhere. -/
def termsAt (x : Position → Terms) (p : Position) (t : Terms) : Position → Terms := Function.update x p t

variable {x : Position → Terms} {t t' : Terms} {b b' : Booth} {c c' : Intercept} {s : State} {p : Position} {m n : Nat}

@[simp] theorem termsAt_self : termsAt x p t p = t := Function.update_self ..

@[simp] theorem termsAt_of_ne {q : Position} (h : q ≠ p) : termsAt x p t q = x q := Function.update_of_ne h ..

@[simp] theorem termsAt_termsAt : termsAt (termsAt x p t) p t' = termsAt x p t' := Function.update_idem ..

@[simp] theorem termsAt_eq_self : termsAt x p (x p) = x := Function.update_eq_self ..

/-! ## Credit -/

theorem SettledAt.of_unknown (h : b.known = none) : SettledAt b c :=
  ⟨fun n _ hn => by simp [Machine.credit, h] at hn, fun n _ _ _ hn => by simp [Machine.credit, h] at hn⟩

theorem SettledAt.of_state (hcall : b.state ≠ .call) (hgrace : b.state ≠ .grace) : SettledAt b c :=
  ⟨fun _ h => absurd h hcall, fun _ h => absurd h hgrace⟩

/-- Credit stays evaluated where state, card and credit stay as they are. -/
theorem SettledAt.congr (h : SettledAt b c) (hcredit : Machine.credit b' c' = Machine.credit b c := by rfl)
    (hstate : b'.state = b.state := by rfl) (hpresent : b'.present = b.present := by rfl)
    (hserial : b'.serial = b.serial := by rfl) : SettledAt b' c' := by
  refine ⟨fun n hs hn => ?_, fun n hs hp hser hn => ?_⟩
  · exact h.call n (hstate ▸ hs) (hcredit ▸ hn)
  · exact h.grace n (hstate ▸ hs) (hpresent ▸ hp) (hserial ▸ hser) (hcredit ▸ hn)

theorem SettledAt.of_kept (h : SettledAt b c) (hk : c'.k = c.k) : SettledAt b c' :=
  h.congr (by simp [Machine.credit, hk])

theorem creditSettled_iff : s.CreditSettled ↔ ∀ q, SettledAt (s.booth q) (s.slot q) :=
  ⟨fun h q => ⟨h.call q, h.grace q⟩, fun h => ⟨fun q => (h q).call, fun q => (h q).grace⟩⟩

/-! ## Slot records and held requests -/

/-- A slot record stays sound while the known balance and the writes stay, and the booth enters no FAULT. -/
theorem RecordRule.ok.congr {x : RecordRule} (h : x.ok b c) (hfault : b'.state = .fault → b.state = .fault)
    (hknown : b'.known = b.known := by rfl) (hflight : c'.inFlight = c.inFlight := by rfl)
    (hheld : c'.held = c.held := by rfl) (hrecord : c'.record = c.record := by rfl) : x.ok b' c' := by
  cases x with
  | any => trivial
  | noWrite => exact fun r hr => h r (hrecord ▸ hr)
  | gone => exact hrecord.trans h
  | sound =>
    intro r hr a v hv
    obtain ⟨free, own, notFault, le⟩ := h r (hrecord ▸ hr) a v hv
    exact ⟨hflight.trans free, fun ho => hheld ▸ own ho, fun ha hf => notFault ha (hfault hf), fun ha ht => hknown ▸ le ha ht⟩

theorem RecordRule.ok.of_ne_sound {x : RecordRule} (h : x.ok b c) (hx : x ≠ .sound)
    (hrecord : c'.record = c.record := by rfl) : x.ok b' c' := by
  cases x with
  | any => trivial
  | noWrite => exact fun r hr => h r (hrecord ▸ hr)
  | gone => exact hrecord.trans h
  | sound => exact absurd rfl hx

/-- A held WRITE stays sound while the known balance stays and W with the units that return to it does not fall. -/
theorem Held.sound.mono {h : Held} {k k' : Nat} (hs : h.sound b k) (hle : b.owed + k ≤ b'.owed + k')
    (hknown : b'.known = b.known := by rfl) : h.sound b' k' := by
  intro v hv
  obtain ⟨n, hn, hlt, hsum⟩ := hs v hv
  exact ⟨n, hknown.trans hn, hlt, hsum.trans hle⟩

/-- A held READ is sound whatever the booth. -/
theorem Held.sound_of_not_isWrite {h : Held} (hw : h.isWrite = false) (b : Booth) (k : Nat) : h.sound b k := by
  intro v hv
  simp [Held.isWrite, hv] at hw

/-- With its balance unknown a record has no prior balance, and so it covers no units. -/
theorem Terms.Hold.k_eq_zero (h : t.Hold b c) (hk : b.known = none) : c.k = 0 := by
  unfold Intercept.k
  split
  next r hr =>
    by_contra hne
    obtain ⟨n, hn, -, -⟩ := (h.inFlight r hr).2 (Nat.pos_of_ne_zero hne)
    exact nomatch hk.symm.trans ((h.inFlight r hr).1 n hn).1
  next => rfl

/-- Covered units are of word 4. -/
theorem InFlight.sound.k_eq_zero {r : InFlight} (h : r.sound b) (hr : r.word ≠ 4) : r.k = 0 := by
  by_contra hne
  obtain ⟨n, hn, -, -⟩ := h.2 (Nat.pos_of_ne_zero hne)
  exact hr (h.1 n hn).2

theorem InFlight.sound.k_eq_zero_of_prior {r : InFlight} (h : r.sound b) (hr : r.prior = none) : r.k = 0 := by
  by_contra hne
  obtain ⟨n, hn, -, -⟩ := h.2 (Nat.pos_of_ne_zero hne)
  exact nomatch hr.symm.trans hn

/-- The units that leave a booth with its one pair are all the units of its position (R9, R59, R66). -/
theorem Terms.Hold.units_out (h : t.Hold b c) (hr : t.resolved) : b.owed + pairK (outPair c b) = unitsAt b c := by
  unfold unitsAt outPair Intercept.k
  cases hc : c.inFlight with
  | none => simp
  | some r =>
    by_cases hk : 0 < r.k
    · obtain ⟨n, hn, -, -⟩ := (h.inFlight r hc).2 hk
      have hknown := ((h.inFlight r hc).1 n hn).1
      simp [InFlight.pair, hk, h.resolved hr (by simp [hknown]), pairK]
    · simp [InFlight.pair, Nat.eq_zero_of_not_pos hk]

/-! ## Terms after a write of one context -/

theorem Terms.Hold.relax (h : t.Hold b c) : t.unsettled.Hold b c := { h with credit := False.elim }

theorem Terms.Hold.settle (h : t.unsettled.Hold b c) (hc : SettledAt b c) : t.Hold b c := { h with credit := fun _ => hc }

/-- A write of a booth that leaves card, balance and pending resolution alone, does not lower W, and enters no FAULT. -/
theorem Terms.Hold.onBooth (h : t.Hold b c) (hcredit : t.settled → SettledAt b' c)
    (hfault : b'.state = .fault → b.state = .fault) (howed : b.owed ≤ b'.owed := by exact Nat.le_refl _)
    (hpresent : b'.present = b.present := by rfl) (hhigh : b'.serialHigh = b.serialHigh := by rfl)
    (hlow : b'.serialLow = b.serialLow := by rfl) (hknown : b'.known = b.known := by rfl)
    (hres : b'.pendingRes = b.pendingRes := by rfl) : t.Hold b' c where
  noCard := by rw [hpresent, hknown, hres]; exact h.noCard
  bounded := by rw [hknown]; exact h.bounded
  resolved := by rw [hknown, hres]; exact h.resolved
  fault hf := by rw [hhigh, hlow, hknown, hres]; exact h.fault (hfault hf)
  inFlight r hr := by
    obtain ⟨prior, covered⟩ := h.inFlight r hr
    exact ⟨fun n hn => hknown ▸ prior n hn, covered⟩
  held y hy := (h.held y hy).mono (Nat.add_le_add_right howed _) hknown
  record := h.record.congr hfault hknown
  credit := hcredit
  alive ha hf := h.alive ha (hfault hf)
  present hp := hpresent.trans (h.present hp)

/-! ## The account -/

theorem sum_map_eq {f g : Position → Nat} (h : ∀ q, q ≠ p → g q = f q) :
    ∀ l : List Position, l.Nodup → p ∈ l → (l.map g).sum + f p = (l.map f).sum + g p := by
  have same : ∀ l : List Position, p ∉ l → (l.map g).sum = (l.map f).sum := fun l hl => by
    rw [List.map_congr_left fun q hq => h q fun heq => hl (heq ▸ hq)]
  intro l
  induction l with
  | nil => exact fun _ hp => nomatch hp
  | cons q l ih =>
    intro hl hp
    obtain ⟨hq, hl⟩ := List.nodup_cons.mp hl
    rw [List.map_cons, List.map_cons, List.sum_cons, List.sum_cons]
    rcases List.mem_cons.mp hp with rfl | hp
    · have heq := same l hq
      omega
    · have hsum := ih hl hp
      have heq := h q fun heq => hq (heq ▸ hp)
      omega

/-- A write of the contexts of one position moves the units held by the units of that position (R66). -/
theorem unitsHeld_write (s : State) (p : Position) (b : Booth) (c : Intercept) :
    ((s.setBooth p b).setSlot p c).unitsHeld + unitsAt (s.booth p) (s.slot p) = s.unitsHeld + unitsAt b c := by
  have elsewhere : ∀ q, q ≠ p → unitsAt (((s.setBooth p b).setSlot p c).booth q) (((s.setBooth p b).setSlot p c).slot q) =
      unitsAt (s.booth q) (s.slot q) := fun q hq => by simp [hq]
  have sum := sum_map_eq (f := fun q => unitsAt (s.booth q) (s.slot q)) elsewhere positions positions_nodup (mem_positions p)
  unfold State.unitsHeld
  simp only [State.setSlot_booth, State.booth_setBooth_self, State.slot_setSlot_self] at sum
  simp only [State.setSlot_booth, State.setSlot_arrears, State.setBooth_arrears]
  omega

/-! ## Writes -/

/-- Both contexts of a position are written, and the units that leave them are on their way. -/
theorem State.Books.write (h : s.Books x n) (ht : t.Hold b c)
    (hu : unitsAt b c + m = unitsAt (s.booth p) (s.slot p) + n) :
    ((s.setBooth p b).setSlot p c).Books (termsAt x p t) m where
  each q := by
    by_cases hq : q = p
    · subst hq
      simpa using ht
    · simpa [hq] using h.each q
  distinct := h.distinct
  balance := by
    have units := unitsHeld_write s p b c
    have balance := h.balance
    simp only [State.setSlot_ledger, State.setBooth_ledger]
    omega

theorem State.Books.setBooth (h : s.Books x n) (ht : t.Hold b (s.slot p))
    (hu : unitsAt b (s.slot p) + m = unitsAt (s.booth p) (s.slot p) + n) : (s.setBooth p b).Books (termsAt x p t) m := by
  have written := h.write ht hu
  rwa [← State.setBooth_slot s p b, State.setSlot_slot] at written

theorem State.Books.setSlot (h : s.Books x n) (ht : t.Hold (s.booth p) c)
    (hu : unitsAt (s.booth p) c + m = unitsAt (s.booth p) (s.slot p) + n) : (s.setSlot p c).Books (termsAt x p t) m := by
  have written := h.write ht hu
  rwa [State.setBooth_booth] at written

/-- The terms agreed at a position change, and nothing else. -/
theorem State.Books.agree (h : s.Books x n) (ht : t.Hold (s.booth p) (s.slot p)) : s.Books (termsAt x p t) n := by
  have written := h.setBooth ht rfl
  rwa [State.setBooth_booth] at written

theorem State.Books.at (h : s.Books (termsAt x p t) n) : t.Hold (s.booth p) (s.slot p) := by
  simpa using h.each p

/-- The terms of a position hold again. -/
theorem State.Books.restore (h : s.Books (termsAt x p t) n) (ht : (x p).Hold (s.booth p) (s.slot p)) : s.Books x n := by
  simpa using h.agree ht

theorem State.Books.relax (h : s.Books x n) (p : Position) : s.Books (termsAt x p (x p).unsettled) n :=
  h.agree (h.each p).relax

/-- An update of a booth that leaves card, balance, W and pending resolution alone. -/
theorem State.Books.onBooth (h : s.Books x n) (hcredit : (x p).settled → SettledAt b' (s.slot p))
    (hfault : b'.state = .fault → (s.booth p).state = .fault) (howed : b'.owed = (s.booth p).owed := by rfl)
    (hpresent : b'.present = (s.booth p).present := by rfl) (hhigh : b'.serialHigh = (s.booth p).serialHigh := by rfl)
    (hlow : b'.serialLow = (s.booth p).serialLow := by rfl) (hknown : b'.known = (s.booth p).known := by rfl)
    (hres : b'.pendingRes = (s.booth p).pendingRes := by rfl) : (s.setBooth p b').Books x n := by
  have written := h.setBooth (m := n)
    ((h.each p).onBooth hcredit hfault howed.ge hpresent hhigh hlow hknown hres) (by simp [unitsAt, howed, hres])
  simpa using written

/-- An update of a booth that leaves also its state alone. -/
theorem State.Books.onSame (h : s.Books x n) (hstate : b'.state = (s.booth p).state := by rfl)
    (howed : b'.owed = (s.booth p).owed := by rfl) (hpresent : b'.present = (s.booth p).present := by rfl)
    (hhigh : b'.serialHigh = (s.booth p).serialHigh := by rfl) (hlow : b'.serialLow = (s.booth p).serialLow := by rfl)
    (hknown : b'.known = (s.booth p).known := by rfl) (hres : b'.pendingRes = (s.booth p).pendingRes := by rfl) :
    (s.setBooth p b').Books x n := by
  refine h.onBooth (fun hs => ((h.each p).credit hs).congr ?_ hstate hpresent ?_) (fun hf => hstate ▸ hf) howed hpresent hhigh
    hlow hknown hres
  · simp [Machine.credit, hknown, howed, hres]
  · simp [Booth.serial, hhigh, hlow]

/-- An update of a slot that leaves the writes in flight and held and the slot record alone. -/
theorem State.Books.onSlotSame (h : s.Books x n) (hflight : c.inFlight = (s.slot p).inFlight := by rfl)
    (hheld : c.held = (s.slot p).held := by rfl) (hrecord : c.record = (s.slot p).record := by rfl) :
    (s.setSlot p c).Books x n := by
  have hk : c.k = (s.slot p).k := by simp [Intercept.k, hflight]
  have hp := h.each p
  have kept : (x p).Hold (s.booth p) c := { hp with
    noCard := by rw [hk, hheld]; exact hp.noCard
    fault := by rw [hflight, hheld]; exact hp.fault
    inFlight := by rw [hflight]; exact hp.inFlight
    held := by rw [hk, hheld]; exact hp.held
    record := hp.record.congr id rfl hflight hheld hrecord
    credit := fun hs => (hp.credit hs).of_kept hk }
  simpa using h.setSlot kept (m := n) (by simp [unitsAt, hk])

/-- An operation that changes no context, no entry and nothing of the account. -/
theorem State.Books.of_same {u : State} (h : s.Books x n) (booths : u.booths = s.booths := by rfl)
    (slots : u.slots = s.slots := by rfl) (arrears : u.arrears = s.arrears := by rfl)
    (ledger : u.ledger = s.ledger := by rfl) : u.Books x n where
  each q := by
    rw [State.booth, State.slot, booths, slots]
    exact h.each q
  distinct := arrears ▸ h.distinct
  balance := by
    have held : u.unitsHeld = s.unitsHeld := by
      unfold State.unitsHeld State.booth State.slot
      rw [booths, slots, arrears]
    rw [ledger, held]
    exact h.balance

theorem State.Books.ite {u : State} {q : Prop} [Decidable q] (ht : q → u.Books x n) (hs : ¬ q → s.Books x n) :
    (if q then u else s).Books x n := by
  split
  next hq => exact ht hq
  next hq => exact hs hq

theorem State.Books.place (h : s.Books x n) (r : Report) : (s.place r).Books x n :=
  h.of_same (by simp) (by simp) (by simp) (by simp)

theorem State.Books.placeIf (h : s.Books x n) (q : Bool) (r : Report) : (s.placeIf q r).Books x n :=
  .ite (fun _ => h.place r) fun _ => h

/-- Units accrued are on their way until they are charged (R66). -/
theorem State.Books.addAccrued (h : s.Books x n) (m : Nat) : (s.addAccrued m).Books x (n + m) where
  each := h.each
  distinct := h.distinct
  balance := by
    have held : (s.addAccrued m).unitsHeld = s.unitsHeld := rfl
    have balance := h.balance
    simp only [State.addAccrued] at held ⊢
    omega

theorem State.Books.addDebited (h : s.Books x (n + m)) : (s.addDebited m).Books x n where
  each := h.each
  distinct := h.distinct
  balance := by
    have held : (s.addDebited m).unitsHeld = s.unitsHeld := rfl
    have balance := h.balance
    simp only [State.addDebited] at held ⊢
    omega

theorem State.Books.addDropped (h : s.Books x (n + m)) : (s.addDropped m).Books x n where
  each := h.each
  distinct := h.distinct
  balance := by
    have held : (s.addDropped m).unitsHeld = s.unitsHeld := rfl
    have balance := h.balance
    simp only [State.addDropped] at held ⊢
    omega

theorem State.Books.dropUnits (h : s.Books x (n + m)) (p : Position) (cause : DropCause) :
    (s.dropUnits p m cause).Books x n := (h.place _).addDropped

theorem State.Books.dropNoSerial (h : s.Books x (n + m)) (p : Position) : (s.dropNoSerial p m).Books x n := by
  unfold State.dropNoSerial
  split
  · exact h.dropUnits ..
  next hbig =>
    have split : s.Books x (n + (m - Config.unitsMax) + Config.unitsMax) := by
      rwa [Nat.add_assoc, Nat.sub_add_cancel (Nat.le_of_not_le hbig)]
    exact (split.dropUnits ..).dropUnits ..

theorem State.Books.dropEntry {e : ArrearsEntry} (h : s.Books x (n + e.units)) (cause : EntryDropCause) :
    (s.dropEntry e cause).Books x n := ((h.place _).placeIf ..).addDropped

/-! ## Credit, W and clear-down (R3, R12 to R15, R40) -/

/-- A grace time that starts at a booth whose credit is not defined. -/
theorem State.Books.enterGrace (h : s.Books x n) (hk : (s.booth p).known = none) : (s.enterGrace p).Books x n :=
  h.onBooth (fun _ => .of_unknown hk) (by simp)

theorem Terms.Hold.evaluated (h : t.unsettled.Hold b c) (grace : Nat) : t.Hold (b.evaluated c grace) c := by
  have settle := fun {b' : Booth} (h' : t.unsettled.Hold b' c) => h'.settle
  unfold Booth.evaluated
  split
  next hk => exact settle h (.of_unknown hk)
  next k hk =>
    have hcredit : Machine.credit b c = some ((k : Int) - b.owed - c.k - pairK b.pendingRes) := by simp [Machine.credit, hk]
    dsimp only
    split
    next hcall =>
      refine settle (h.onBooth False.elim (by simp)) ⟨fun _ hs => by simp at hs, fun z _ _ _ hz => ?_⟩
      obtain rfl := Option.some.inj (hcredit.symm.trans hz)
      exact hcall.2
    next hcall =>
      split
      next hgrace =>
        refine settle (h.onBooth False.elim (by simp)) ⟨fun z _ hz => ?_, fun _ hs => by simp at hs⟩
        obtain rfl := Option.some.inj (hcredit.symm.trans hz)
        exact hgrace.2.2.2.2
      next hgrace =>
        refine settle h ⟨fun z hs hz => ?_, fun z hs hp hser hz => ?_⟩
        · obtain rfl := Option.some.inj (hcredit.symm.trans hz)
          exact Int.not_le.mp fun hle => hcall ⟨hs, hle⟩
        · obtain rfl := Option.some.inj (hcredit.symm.trans hz)
          refine Int.not_lt.mp fun hlt => hgrace ⟨hs, hp, ?_, ?_, hlt⟩ <;>
            · unfold Booth.serial at hser
              split at hser
              next h1 h2 => simp [h1, h2]
              next => simp at hser

theorem Booth.evaluated_units (b : Booth) (c : Intercept) (grace : Nat) :
    unitsAt (b.evaluated c grace) c = unitsAt b c := by
  unfold Booth.evaluated
  split
  · rfl
  · dsimp only
    split
    · rfl
    · split <;> rfl

/-- An evaluation leaves credit evaluated (R3). -/
theorem State.Books.evaluate (h : s.Books (termsAt x p (x p).unsettled) n) : (s.evaluate p).Books x n := by
  rw [evaluate_eq]
  have written := h.setBooth (m := n) (h.at.evaluated s.settings.graceTime) (by rw [Booth.evaluated_units])
  simpa using written

theorem State.Books.evaluateAgain (h : s.Books x n) (p : Position) : (s.evaluate p).Books x n := (h.relax p).evaluate

theorem State.Books.enterClearing (h : s.Books x n) (p : Position) (cause : ClearCause) :
    (s.enterClearing p cause).Books x n :=
  (h.onBooth (fun _ => .of_state (by simp) (by simp)) (by simp)).place _

theorem State.Books.clearSaturated (h : s.Books x n) (p : Position) : (s.clearSaturated p).Books x n :=
  .ite (fun _ => h.enterClearing ..) fun _ => h

theorem State.Books.addOwed (h : s.Books (termsAt x p ((x p).returning m)) (n + m)) :
    (s.addOwed p m).Books (termsAt x p (x p).unsettled) n := by
  have hp := h.at
  have raised : ∀ w, w ≤ (s.booth p).owed + m → (w = (s.booth p).owed + m ∨ 65535 ≤ w) →
      (x p).unsettled.Hold { s.booth p with owed := w } (s.slot p) := fun w hle hw => { hp with
    credit := False.elim
    held := fun y hy v hv => by
      obtain ⟨k, hk, hlt, hsum⟩ := hp.held y hy v hv
      have bound := hp.bounded k hk
      refine ⟨k, hk, hlt, ?_⟩
      simp only [Terms.returning, Terms.unsettled] at hsum ⊢
      omega }
  unfold State.addOwed
  dsimp only
  split
  next hfits => simpa using h.setBooth (raised _ (Nat.le_refl _) (.inl rfl)) (m := n) (by simp only [unitsAt]; omega)
  next hbig =>
    have capped := h.setBooth (raised 65535 (Nat.le_of_not_le hbig) (.inr (Nat.le_refl _)))
      (m := n + ((s.booth p).owed + m - Config.unitsMax)) (by simp only [unitsAt, Config.unitsMax] at hbig ⊢; omega)
    rw [termsAt_termsAt] at capped
    exact capped.dropUnits ..

theorem State.Books.chargeReturning (h : s.Books (termsAt x p ((x p).returning m)) (n + m)) :
    (s.charge p m).Books (termsAt x p (x p).unsettled) n :=
  .ite (fun _ => h.addOwed.clearSaturated p) fun _ => h.addOwed

/-- Units on their way may return to W. -/
theorem Terms.Hold.returning (h : t.unsettled.Hold b c) (m : Nat) : (t.returning m).Hold b c :=
  { h with held := fun y hy => (h.held y hy).mono (by simp only [Terms.returning, Terms.unsettled]; omega) }

/-- Units on their way are charged (R40). -/
theorem State.Books.charge (h : s.Books (termsAt x p (x p).unsettled) (n + m)) :
    (s.charge p m).Books (termsAt x p (x p).unsettled) n := by
  have returned := h.agree (h.at.returning m)
  rw [termsAt_termsAt] at returned
  exact returned.chargeReturning

end Sys2Proof.Machine

namespace Sys2Proof.Machine

variable {x : Position → Terms} {t t' : Terms} {b b' : Booth} {c c' : Intercept} {s : State} {p : Position} {m n : Nat}

/-! ## Operations that leave the card alone -/

/-- The card, its balance and the pending resolution are as before, and no FAULT was entered. -/
structure Booth.SameCard (b b' : Booth) : Prop where
  present : b'.present = b.present
  serialHigh : b'.serialHigh = b.serialHigh
  serialLow : b'.serialLow = b.serialLow
  known : b'.known = b.known
  pendingRes : b'.pendingRes = b.pendingRes
  fault : b'.state = .fault → b.state = .fault

theorem Booth.SameCard.refl (b : Booth) : b.SameCard b := ⟨rfl, rfl, rfl, rfl, rfl, id⟩

theorem Booth.SameCard.trans {b'' : Booth} (h : b.SameCard b') (h' : b'.SameCard b'') : b.SameCard b'' :=
  ⟨h'.present.trans h.present, h'.serialHigh.trans h.serialHigh, h'.serialLow.trans h.serialLow, h'.known.trans h.known,
    h'.pendingRes.trans h.pendingRes, fun hf => h.fault (h'.fault hf)⟩

theorem Booth.SameCard.serial (h : b.SameCard b') : b'.serial = b.serial := by
  simp [Booth.serial, h.serialHigh, h.serialLow]

theorem enterClearing_sameCard (s : State) (p : Position) (cause : ClearCause) :
    (s.booth p).SameCard ((s.enterClearing p cause).booth p) := by
  have written : (s.enterClearing p cause).booth p = { s.booth p with
      state := .clearing, grace := 0, timer := some (.assert s.settings.clearDownHold) } := by simp [State.enterClearing]
  rw [written]
  exact ⟨rfl, rfl, rfl, rfl, rfl, by simp⟩

theorem enterGrace_sameCard (s : State) (p : Position) : (s.booth p).SameCard ((s.enterGrace p).booth p) := by
  have written : (s.enterGrace p).booth p = { s.booth p with state := .grace, grace := s.graceTicks } := by
    simp [State.enterGrace]
  rw [written]
  exact ⟨rfl, rfl, rfl, rfl, rfl, by simp⟩

theorem evaluate_sameCard (s : State) (p : Position) : (s.booth p).SameCard ((s.evaluate p).booth p) := by
  rcases evaluate_cases s p with he | ⟨he, -, -⟩ | ⟨he, -, -⟩ <;> rw [he]
  · exact .refl _
  · exact enterGrace_sameCard s p
  · rw [State.booth_setBooth_self]
    exact ⟨rfl, rfl, rfl, rfl, rfl, by simp⟩

theorem charge_sameCard (s : State) (p : Position) (n : Nat) : (s.booth p).SameCard ((s.charge p n).booth p) := by
  have added : (s.booth p).SameCard ((s.addOwed p n).booth p) := by
    unfold State.addOwed
    dsimp only
    split
    · rw [State.onBooth_eq, State.booth_setBooth_self]
      exact ⟨rfl, rfl, rfl, rfl, rfl, id⟩
    · rw [booth_dropUnits, State.onBooth_eq, State.booth_setBooth_self]
      exact ⟨rfl, rfl, rfl, rfl, rfl, id⟩
  unfold State.charge
  split
  · refine added.trans ?_
    unfold State.clearSaturated
    split
    · exact enterClearing_sameCard ..
    · exact .refl _
  · exact added

theorem slots_enterClearing (s : State) (p : Position) (cause : ClearCause) : (s.enterClearing p cause).slots = s.slots := by
  simp [State.enterClearing]

theorem slots_dropUnits (s : State) (p : Position) (n : Nat) (cause : DropCause) :
    (s.dropUnits p n cause).slots = s.slots := State.place_slots ..

theorem slots_charge (s : State) (p : Position) (n : Nat) : (s.charge p n).slots = s.slots := by
  have added : (s.addOwed p n).slots = s.slots := by
    unfold State.addOwed
    dsimp only
    split
    · rfl
    · exact slots_dropUnits ..
  unfold State.charge State.clearSaturated
  split
  · split
    · rw [slots_enterClearing, added]
    · exact added
  · exact added

theorem onBooth_sameCard {f : Booth → Booth} (h : (s.booth p).SameCard (f (s.booth p))) :
    (s.booth p).SameCard ((s.onBooth p f).booth p) := by
  rwa [State.onBooth_eq, State.booth_setBooth_self]

theorem startResumed_sameCard (s : State) (p : Position) : (s.booth p).SameCard ((s.startResumed p).booth p) := by
  unfold State.startResumed
  dsimp only
  split
  · split
    · exact Booth.SameCard.trans (onBooth_sameCard ⟨rfl, rfl, rfl, rfl, rfl, by simp⟩) (evaluate_sameCard ..)
    · exact Booth.SameCard.trans (onBooth_sameCard ⟨rfl, rfl, rfl, rfl, rfl, by simp⟩) (enterGrace_sameCard ..)
  · exact Booth.SameCard.trans (onBooth_sameCard ⟨rfl, rfl, rfl, rfl, rfl, id⟩) (enterClearing_sameCard ..)

/-! ## Pending resolutions and the known balance (R2, R62) -/

/-- The terms at a position where a reply acts: its slot record is not relied on. -/
structure Terms.Acting (t : Terms) : Prop where
  rule : t.rule ≠ .sound
  resolved : t.resolved
  slack : t.slack = 0
  alive : ¬ t.alive
  present : ¬ t.present

theorem Terms.Acting.unsettled (h : t.Acting) : t.unsettled.Acting := { h with }

/-- A booth with its card present and no fault. -/
structure Booth.Reads (b : Booth) : Prop where
  present : b.present = .yes
  alive : b.state ≠ .fault

theorem Booth.Reads.of_sameCard (h : b.Reads) (hs : b.SameCard b') : b'.Reads :=
  ⟨hs.present.trans h.present, fun hf => h.alive (hs.fault hf)⟩

theorem Pair.extra_le (q : Pair) (balance : Nat) : q.extra balance ≤ q.k := min_le_left ..

theorem State.Books.settlePending (h : s.Books (termsAt x p (x p).unresolved) n) :
    (s.settlePending p).Books (termsAt x p (x p).unsettled) n := by
  have hp := h.at
  unfold State.settlePending
  split
  next q k hq hk =>
    have cleared : (x p).unsettled.Hold { s.booth p with pendingRes := none } (s.slot p) := { hp with
      noCard := fun hc => ⟨(hp.noCard hc).1, rfl, (hp.noCard hc).2.2⟩
      resolved := fun _ _ => rfl
      fault := fun hf => by
        obtain ⟨high, low, known, -, held, word⟩ := hp.fault hf
        exact ⟨high, low, known, rfl, held, word⟩
      credit := False.elim }
    have out := h.setBooth cleared (m := n + q.extra k + (q.k - q.extra k)) (by
      have hle := q.extra_le k
      simp only [unitsAt, hq, pairK]
      omega)
    rw [termsAt_termsAt] at out
    exact out.addDebited.charge.evaluate.relax p
  next hnone =>
    have settled : (x p).unsettled.Hold (s.booth p) (s.slot p) := { hp with
      resolved := fun _ hk => by
        obtain ⟨k, hk⟩ := Option.ne_none_iff_exists'.mp hk
        exact Option.eq_none_iff_forall_ne_some.mpr fun q hq => hnone q k hq hk
      credit := False.elim }
    have agreed := h.agree settled
    rwa [termsAt_termsAt] at agreed

theorem State.Books.takePair {q : Pair} (h : s.Books (termsAt x p (x p).unsettled) (n + q.k)) (hr : (s.booth p).Reads) :
    (s.takePair p q).Books (termsAt x p (x p).unsettled) n := by
  have hp := h.at
  unfold State.takePair
  split
  next hnone =>
    have taken : (x p).unresolved.Hold { s.booth p with pendingRes := some q } (s.slot p) := { hp with
      noCard := fun hc => absurd hr.present hc
      resolved := False.elim
      fault := fun hf => absurd hf hr.alive
      credit := False.elim }
    have held := h.setBooth taken (m := n) (by simp only [unitsAt, hnone, pairK]; omega)
    rw [termsAt_termsAt] at held
    exact held.settlePending
  next => exact h.dropUnits ..

theorem Terms.Hold.noHeld (h : t.Hold b c) (hrule : t.rule ≠ .sound) : t.Hold b { c with held := none } := { h with
  noCard := fun hc => ⟨(h.noCard hc).1, (h.noCard hc).2.1, (h.noCard hc).2.2.1, rfl⟩
  fault := fun hf => by
    obtain ⟨high, low, known, res, -, word⟩ := h.fault hf
    exact ⟨high, low, known, res, rfl, word⟩
  held := nofun
  record := h.record.of_ne_sound hrule
  credit := fun hs => (h.credit hs).of_kept rfl }

theorem Terms.Hold.noInFlight (h : t.Hold b c) (hrule : t.rule ≠ .sound) (hk : c.k = 0) :
    t.Hold b { c with inFlight := none } := { h with
  noCard := fun hc => ⟨(h.noCard hc).1, (h.noCard hc).2.1, rfl, (h.noCard hc).2.2.2⟩
  fault := fun hf => by
    obtain ⟨high, low, known, res, held, -⟩ := h.fault hf
    exact ⟨high, low, known, res, held, nofun⟩
  inFlight := nofun
  held := fun y hy => (h.held y hy).mono (by rw [hk]; exact Nat.le_refl _)
  record := h.record.of_ne_sound hrule
  credit := fun hs => (h.credit hs).of_kept hk.symm }

theorem State.Books.noHeld (h : s.Books x n) (hrule : (x p).rule ≠ .sound) :
    (s.setSlot p { s.slot p with held := none }).Books x n := by
  simpa using h.setSlot ((h.each p).noHeld hrule) (m := n) rfl

theorem State.Books.dropHeldRead (h : s.Books x n) (hrule : (x p).rule ≠ .sound) (a : WordAddr) :
    (s.dropHeldRead p a).Books x n := by
  unfold State.dropHeldRead
  rw [State.onSlot_eq]
  split
  · exact h.noHeld hrule
  · rwa [State.setSlot_slot]

theorem State.Books.clearRecord (h : s.Books x n) (hrule : (x p).rule ≠ .sound) (hk : (s.slot p).k = 0) :
    (s.clearRecord p).Books x n := by
  have cleared := h.setSlot ((h.each p).noInFlight hrule hk) (m := n) (by simp only [unitsAt, hk]; rfl)
  rwa [termsAt_eq_self] at cleared

/-- A balance that changes (R2). Units may still be on their way that a held WRITE counts on: the held WRITE goes. -/
theorem State.Books.setKnown {v k : Nat} (h : s.Books (termsAt x p { (x p).unsettled with slack := k }) n)
    (hrule : (x p).rule ≠ .sound) (hr : (s.booth p).Reads) (hfree : (s.slot p).inFlight = none) (hv : v ≤ 65535)
    (hne : (s.booth p).known ≠ some v) : (s.setKnown p v).Books x n := by
  unfold State.setKnown
  split
  next heq => exact absurd heq hne
  next =>
    have hp := h.at
    have learned : ∀ c : Intercept, c.inFlight = none → (∀ y, c.held = some y → y.isWrite = false) →
        c.record = (s.slot p).record → (x p).unresolved.Hold { s.booth p with known := some v } c :=
      fun c hc hheld hrecord => { hp with
        noCard := fun hn => absurd hr.present hn
        bounded := by rintro _ ⟨⟩; exact hv
        resolved := False.elim
        fault := fun hf => absurd hf hr.alive
        inFlight := fun r hr => nomatch hc.symm.trans hr
        held := fun y hy => Held.sound_of_not_isWrite (hheld y hy) _ _
        record := hp.record.of_ne_sound hrule hrecord
        credit := False.elim }
    have k0 : (s.slot p).k = 0 := by simp [Intercept.k, hfree]
    have written : (((s.onBooth p fun b => { b with known := some v }).dropHeldWrite p)).Books
        (termsAt x p (x p).unresolved) n := by
      unfold State.dropHeldWrite
      rw [State.onBooth_eq, State.onSlot_eq, State.setBooth_slot]
      split
      · have dropped := h.write (p := p) (m := n) (learned { s.slot p with held := none } hfree nofun rfl) (by simp [unitsAt, Intercept.k])
        rwa [termsAt_termsAt] at dropped
      next hread =>
        have kept := h.write (p := p) (m := n) (learned (s.slot p) hfree (fun y hy => by simpa [hy] using hread) rfl) rfl
        rwa [termsAt_termsAt] at kept
    exact written.settlePending.evaluate

/-- The value already held changes nothing (R2). -/
theorem learnBalance_of_known {v : Nat} (h : (s.booth p).known = some v) (own : Bool) : s.learnBalance p v own = s := by
  simp [State.learnBalance, State.setKnown, h]

theorem State.Books.learnBalance {v k : Nat} (h : s.Books (termsAt x p { (x p).unsettled with slack := k }) n)
    (hrule : (x p).rule ≠ .sound) (hr : (s.booth p).Reads) (hfree : (s.slot p).inFlight = none) (hv : v ≤ 65535)
    (own : Bool) (hne : (s.booth p).known ≠ some v) : (s.learnBalance p v own).Books x n := by
  unfold State.learnBalance
  split
  · exact h.setKnown hrule hr hfree hv hne
  · have dropped := h.dropHeldRead (p := p) (by rw [termsAt_self]; exact hrule) 4
    refine dropped.setKnown hrule hr ?_ hv hne
    simp only [State.dropHeldRead, State.onSlot_eq, State.slot_setSlot_self]
    split <;> exact hfree

/-! ## Writes in flight (R58 to R60, R95, R124) -/

/-- A record of word 4 is settled: its k returns to W or is debited (R60). -/
theorem State.Books.settleRecord {r : InFlight} {v : Nat} (h : s.Books x n) (hrule : (x p).rule ≠ .sound)
    (hr : (s.booth p).Reads) (hc : (s.slot p).inFlight = some r) (hv : v ≤ 65535) (own : Bool) :
    (s.settleRecord p r v own).Books x n := by
  have hp := h.each p
  have hk : (s.slot p).k = r.k := by simp [Intercept.k, hc]
  have hle : min r.k (v - r.value) ≤ r.k := min_le_left ..
  have sound := hp.inFlight r hc
  unfold State.settleRecord
  dsimp only
  generalize hextra : min r.k (v - r.value) = extra at hle ⊢
  rw [State.onSlot_eq]
  have open_ : { (x p).unsettled with slack := (x p).slack + (r.k - extra) + extra }.Hold (s.booth p)
      { s.slot p with inFlight := none } := { hp with
    noCard := fun hn => absurd hr.present hn
    fault := fun hf => absurd hf hr.alive
    inFlight := nofun
    held := fun y hy => (hp.held y hy).mono (by
      simp only [Intercept.k, hc]
      omega)
    record := hp.record.of_ne_sound hrule
    credit := False.elim }
  have out := h.setSlot open_ (m := n + extra + (r.k - extra)) (by
    simp only [unitsAt, hk]
    simp only [Intercept.k]
    omega)
  have charged := State.Books.chargeReturning (p := p) (m := extra) (n := n)
    (x := termsAt x p { (x p) with slack := (x p).slack + (r.k - extra) })
    (by rw [termsAt_self, termsAt_termsAt]; exact out.addDebited)
  rw [termsAt_self, termsAt_termsAt] at charged
  have same := charge_sameCard ((s.setSlot p { s.slot p with inFlight := none }).addDebited (r.k - extra)) p extra
  by_cases hknown : ((((s.setSlot p { s.slot p with inFlight := none }).addDebited (r.k - extra)).charge p extra).booth
      p).known = some v
  · have none_left : r.k - extra = 0 := by
      rw [same.known] at hknown
      by_cases hpos : 0 < r.k
      · obtain ⟨k, hprior, hlt, hcov⟩ := sound.2 hpos
        obtain rfl := Option.some.inj (((sound.1 k hprior).1).symm.trans hknown)
        rw [← hextra, min_eq_left hcov, Nat.sub_self]
      · rw [Nat.eq_zero_of_not_pos hpos, Nat.zero_sub]
    rw [learnBalance_of_known hknown]
    refine State.Books.evaluate ?_
    rw [none_left] at charged ⊢
    exact charged
  · refine (charged.learnBalance hrule (hr.of_sameCard same) ?_ hv own hknown).evaluateAgain p
    rw [State.slot, slots_charge]
    exact congrArg Intercept.inFlight (State.slot_setSlot_self ..)

theorem State.Books.notPerformed {r : InFlight} (h : s.Books x n) (hrule : (x p).rule ≠ .sound)
    (hr : (s.booth p).state ≠ .fault → (s.booth p).present = .yes) (hc : (s.slot p).inFlight = some r) :
    (s.notPerformed p r).Books x n := by
  have sound := (h.each p).inFlight r hc
  have hk : (s.slot p).k = r.k := by simp [Intercept.k, hc]
  unfold State.notPerformed
  split
  next hword =>
    have alive : (s.booth p).state ≠ .fault := fun hf => ((h.each p).fault hf).2.2.2.2.2 r hc hword
    split
    next k hprior => exact h.settleRecord hrule ⟨hr alive, alive⟩ hc ((h.each p).bounded k (sound.1 k hprior).1) true
    next hprior => exact h.clearRecord hrule (hk.trans (sound.k_eq_zero_of_prior hprior))
  next hword => exact h.clearRecord hrule (hk.trans (sound.k_eq_zero hword))

/-- What a write sent in a slot rests on when its record is opened (R46, R107, R110, R126). -/
structure OpensSoundly (r : SlotRecord) (a : WordAddr) (v : Nat) (b : Booth) (c : Intercept) : Prop where
  free : c.inFlight = none
  own : r.origin = .own → a = 4 ∧ c.held.map Held.request = some (.write v)
  alive : a = 4 → b.state ≠ .fault

theorem SlotRecord.sound.opens {r : SlotRecord} (h : r.sound b c) {a : WordAddr} {v : Nat} (hr : r.sent = .write a v) :
    OpensSoundly r a v b c := by
  obtain ⟨free, own, alive, -⟩ := h a v hr
  exact ⟨free, own, alive⟩

/-- The covered units of a write are covered by W, and come with the known balance as prior balance (R58, R59). -/
theorem acceptedPair_sound {r : SlotRecord} {a : WordAddr} {v : Nat} (h : t.Hold b c) (hslack : t.slack = 0)
    (hr : OpensSoundly r a v b c) :
    (∀ k, (acceptedPair b r a v).1 = some k → b.known = some k ∧ a = 4) ∧
    (0 < (acceptedPair b r a v).2 → ∃ k, (acceptedPair b r a v).1 = some k ∧ v < k ∧ (acceptedPair b r a v).2 ≤ k - v) ∧
    (acceptedPair b r a v).2 ≤ b.owed := by
  have k0 : c.k = 0 := by simp [Intercept.k, hr.free]
  unfold acceptedPair
  split
  · exact ⟨nofun, nofun, Nat.zero_le _⟩
  next ha =>
    have ha : a = 4 := not_not.mp ha
    split
    · exact ⟨nofun, nofun, Nat.zero_le _⟩
    next k hk =>
      have prior : ∀ j, some k = some j → b.known = some j ∧ a = 4 := by
        rintro _ ⟨⟩
        exact ⟨hk, ha⟩
      split
      next horigin =>
        obtain ⟨-, hheld⟩ := hr.own horigin
        obtain ⟨y, hy, hreq⟩ := Option.map_eq_some_iff.mp hheld
        obtain ⟨j, hj, hlt, hsum⟩ := h.held y hy v hreq
        obtain rfl := Option.some.inj (hk.symm.trans hj)
        exact ⟨prior, fun _ => ⟨k, rfl, hlt, Nat.le_refl _⟩, by dsimp only; omega⟩
      next => exact ⟨prior, nofun, Nat.zero_le _⟩
      next =>
        refine ⟨prior, fun hpos => ⟨k, rfl, ?_, min_le_right ..⟩, min_le_left ..⟩
        dsimp only at hpos
        omega

theorem State.Books.openRecord {r : SlotRecord} {a : WordAddr} {v : Nat} (h : s.Books x n)
    (hrule : (x p).rule ≠ .sound) (hslack : (x p).slack = 0) (hr : OpensSoundly r a v (s.booth p) (s.slot p)) :
    (s.openRecord p r a v).Books x n := by
  have hp := h.each p
  obtain ⟨prior, covered, hle⟩ := acceptedPair_sound hp hslack hr
  have k0 : (s.slot p).k = 0 := by simp [Intercept.k, hr.free]
  unfold State.openRecord
  generalize acceptedPair (s.booth p) r a v = pair at prior covered hle
  refine State.Books.evaluate ?_
  rw [State.onBooth_eq, State.onSlot_eq, State.setBooth_slot]
  refine h.write { hp with
    noCard := fun hn => ?_, inFlight := ?_, fault := fun hf => ?_, held := fun y hy => ?_,
    record := hp.record.of_ne_sound hrule, credit := False.elim } ?_
  · obtain ⟨known, res, -, held⟩ := hp.noCard hn
    refine ⟨known, res, ?_, by simp [held]⟩
    by_contra hne
    obtain ⟨k, hk, -, -⟩ := covered (Nat.pos_of_ne_zero hne)
    exact nomatch known.symm.trans (prior k hk).1
  · obtain ⟨high, low, known, res, held, -⟩ := hp.fault hf
    refine ⟨high, low, known, res, by simp [held], ?_⟩
    rintro _ ⟨⟩ ha
    exact hr.alive ha hf
  · rintro _ ⟨⟩
    exact ⟨prior, covered⟩
  · dsimp only at hy
    split at hy
    · exact nomatch hy
    · refine (hp.held y hy).mono ?_
      rw [k0]
      simp only [Terms.unsettled, Intercept.k]
      omega
  · rw [unitsAt, unitsAt, k0]
    simp only [Intercept.k]
    omega

end Sys2Proof.Machine

namespace Sys2Proof.Machine

variable {x : Position → Terms} {t t' : Terms} {b b' : Booth} {c c' : Intercept} {s : State} {p : Position} {m n : Nat}

/-! ## The Arrears List (R66, R71 to R81) -/

/-- Taking an entry off a list that names no serial twice takes its units off, and no others (R68). -/
theorem units_withoutEntry {l : List ArrearsEntry} {e : ArrearsEntry} (hd : (l.map ArrearsEntry.serial).Nodup)
    (he : e ∈ l) : (l.map ArrearsEntry.units).sum = e.units + ((withoutEntry l e.serial).map ArrearsEntry.units).sum := by
  induction l with
  | nil => exact nomatch he
  | cons y l ih =>
    rw [List.map_cons, List.nodup_cons] at hd
    obtain ⟨hy, hd⟩ := hd
    have listed : ∀ z ∈ l, z.serial ≠ y.serial := fun z hz heq => hy (heq ▸ List.mem_map_of_mem hz)
    rcases List.mem_cons.mp he with rfl | he
    · have kept : withoutEntry (e :: l) e.serial = l := by
        rw [withoutEntry, List.filter_cons_of_neg (by simp), List.filter_eq_self]
        exact fun z hz => by simpa using listed z hz
      rw [kept, List.map_cons, List.sum_cons]
    · have kept : withoutEntry (y :: l) e.serial = y :: withoutEntry l e.serial :=
        List.filter_cons_of_pos (by simpa using (listed e he).symm)
      rw [kept, List.map_cons, List.sum_cons, List.map_cons, List.sum_cons, ih hd he]
      omega

theorem findEntry_mem {l : List ArrearsEntry} {k : Nat} {e : ArrearsEntry} (h : findEntry l k = some e) :
    e ∈ l ∧ e.serial = k := ⟨List.mem_of_find?_eq_some h, by simpa using List.find?_some h⟩

/-- An opening loses no unit: what does not enter the list is dropped (R66, R73 to R75). -/
theorem units_openEntry {l : List ArrearsEntry} (hd : (l.map ArrearsEntry.serial).Nodup) (q : Position)
    (serial u : Nat) (pair : Option Pair) :
    ((openEntry l q serial u pair).entries.map ArrearsEntry.units).sum + (openEntry l q serial u pair).dropped =
      (l.map ArrearsEntry.units).sum + (u + pairK pair) := by
  unfold openEntry
  split
  next e he =>
    obtain ⟨hmem, rfl⟩ := findEntry_mem he
    rw [units_withoutEntry hd hmem]
    cases hpair : e.pair <;> cases pair <;>
      · simp [Opening.dropped, ArrearsEntry.units, hpair, pairK]
        omega
  next =>
    split
    · cases l with
      | nil => simp [Opening.dropped, ArrearsEntry.units]
      | cons y l =>
        simp [Opening.dropped, ArrearsEntry.units]
        omega
    · simp [Opening.dropped, ArrearsEntry.units]

theorem State.Books.setArrears {k : List ArrearsEntry} (h : s.Books x n) (hd : (k.map ArrearsEntry.serial).Nodup)
    (hu : (k.map ArrearsEntry.units).sum + m = (s.arrears.map ArrearsEntry.units).sum + n) :
    { s with arrears := k }.Books x m where
  each := h.each
  distinct := hd
  balance := by
    have balance := h.balance
    unfold State.unitsHeld at balance ⊢
    have booths : (positions.map fun p => unitsAt (({ s with arrears := k } : State).booth p)
      (({ s with arrears := k } : State).slot p)) = positions.map fun p => unitsAt (s.booth p) (s.slot p) := rfl
    rw [booths]
    dsimp only
    omega

theorem Opening.dropped_eq (o : Opening) :
    o.dropped = o.evicted.elim 0 ArrearsEntry.units + o.excess + o.unresolved.getD 0 := by
  unfold Opening.dropped
  cases o.evicted <;> rfl

theorem State.Books.openInList {u : Nat} {pair : Option Pair} (h : s.Books x (n + (u + pairK pair))) (q : Position)
    (serial : Nat) : (s.openInList q serial u pair).Books x n := by
  have units := units_openEntry h.distinct q serial u pair
  unfold State.openInList
  dsimp only
  generalize ho : openEntry s.arrears q serial u pair = o at units
  rw [o.dropped_eq] at units
  have opened := h.setArrears (k := o.entries)
    (m := n + o.unresolved.getD 0 + o.excess + o.evicted.elim 0 ArrearsEntry.units)
    (ho ▸ openEntry_distinct h.distinct ..) (by omega)
  have evicted : (State.dropEvicted { s with arrears := o.entries } o.evicted).Books x (n + o.unresolved.getD 0 + o.excess) := by
    cases hev : o.evicted with
    | none =>
      rw [hev] at opened
      exact opened
    | some e =>
      rw [hev] at opened
      exact opened.dropEntry _
  have dropped := State.Books.ite (q := 0 < o.excess)
    (fun _ => (evicted.place (.opened q serial u pair)).dropUnits q .saturated) fun hzero => by
      have placed := evicted.place (.opened q serial u pair)
      rwa [Nat.eq_zero_of_not_pos hzero] at placed
  cases hun : o.unresolved with
  | none =>
    rw [hun] at dropped
    exact dropped
  | some k =>
    rw [hun] at dropped
    exact dropped.dropUnits ..

/-- A direct transfer moves the units and the pair to the receiving booth (R71). -/
theorem State.Books.transfer {u : Nat} {pair : Option Pair} (h : s.Books x (n + (u + pairK pair))) (q : Position)
    {r : Position} (hr : (s.booth r).Reads) (serial : Nat) : (s.transfer q r serial u pair).Books x n := by
  have placed := (h.place (.opened q serial u pair)).place (.collected r serial u (s.handedK r pair))
  have here : { (x r).unsettled with alive := True, present := True }.Hold (s.booth r) (s.slot r) :=
    { (h.each r).relax with alive := fun _ => hr.alive, present := fun _ => hr.present }
  have agreed := placed.agree (p := r) (by simpa using here)
  have added := State.Books.addOwed (x := termsAt x r { x r with alive := True, present := True }) (p := r) (m := u)
    (n := n + pairK pair) (by
      rw [termsAt_self, termsAt_termsAt, Nat.add_assoc, Nat.add_comm (pairK pair)]
      have returned := agreed.agree (Terms.Hold.returning (t := { x r with alive := True, present := True }) agreed.at u)
      rwa [termsAt_termsAt] at returned)
  rw [termsAt_self, termsAt_termsAt] at added
  generalize hv : ((s.place (.opened q serial u pair)).place (.collected r serial u (s.handedK r pair))).addOwed r u = v
    at added
  have held := added.at
  have back : (x r).unsettled.Hold (v.booth r) (v.slot r) := { held with
    alive := fun _ => held.alive trivial, present := fun _ => held.present trivial }
  have paired : (v.transferPair r pair).Books (termsAt x r (x r).unsettled) n := by
    unfold State.transferPair
    cases pair with
    | none => simpa [pairK] using added.agree back
    | some y =>
      have agreed := added.agree back
      rw [termsAt_termsAt] at agreed
      dsimp only
      split
      · exact agreed.dropUnits ..
      next k hres hk =>
        have hle := y.extra_le k
        have sum : n + pairK (some y) = n + (y.k - y.extra k) + y.extra k := by simp only [pairK]; omega
        rw [sum] at agreed
        have returned := agreed.agree (agreed.at.returning (y.extra k))
        rw [termsAt_termsAt] at returned
        exact returned.addOwed.addDebited
      next hres hk =>
        have taken : (x r).unsettled.Hold { v.booth r with pendingRes := some y } (v.slot r) := { back with
          noCard := fun hn => absurd (held.present trivial) hn
          resolved := fun _ hne => absurd hk hne
          fault := fun hf => absurd hf (held.alive trivial)
          credit := False.elim }
        have written := agreed.setBooth taken (m := n) (by simp only [unitsAt, hres, pairK]; omega)
        rwa [termsAt_termsAt] at written
  unfold State.transfer
  dsimp only
  rw [hv]
  exact (State.Books.ite (fun _ => paired.clearSaturated r) fun _ => paired).evaluate

/-- A booth that holds a serial has its card present, and is in no FAULT (R18, R71). -/
theorem Terms.Hold.reads_of_holds (h : t.Hold b c) {k : Nat} (hk : b.holds k = true) : b.Reads := by
  simp only [Booth.holds, decide_eq_true_eq] at hk
  refine ⟨hk.1, fun hf => ?_⟩
  have high := (h.fault hf).1
  have hserial := hk.2
  simp [Booth.serial, high] at hserial

/-- Units and a pair that leave a booth reach the list, another booth, or the units dropped (R9, R66). -/
theorem State.Books.sendOut {u : Nat} {pair : Option Pair} (h : s.Books x (n + (u + pairK pair))) (p : Position)
    (debt : Option Nat) : (s.sendOut p debt u pair).Books x n := by
  unfold State.sendOut
  split
  next hnone =>
    obtain ⟨rfl, rfl⟩ := hnone
    exact h
  next =>
    split
    · unfold State.openArrears
      split
      next r hr => exact h.transfer p ((h.each r).reads_of_holds (State.holds_of_holder hr)) _
      next => exact h.openInList ..
    · exact h.dropNoSerial p

theorem State.Books.expire {e : ArrearsEntry} (h : s.Books x n) (he : e ∈ s.arrears) : (s.expire e).Books x n := by
  have units := units_withoutEntry h.distinct he
  have out := h.setArrears (k := withoutEntry s.arrears e.serial) (m := n + e.units)
    (h.distinct.sublist (List.filter_sublist.map _)) (by omega)
  exact out.dropEntry _

/-- The entry for a serial is collected: its units are charged, its pair is taken (R80, R81). -/
theorem State.Books.collect (h : s.Books (termsAt x p (x p).unsettled) n) (hr : (s.booth p).Reads) (serial : Nat) :
    (s.collect p serial).Books (termsAt x p (x p).unsettled) n := by
  unfold State.collect
  split
  · exact h
  next e he =>
    obtain ⟨hmem, rfl⟩ := findEntry_mem he
    have units := units_withoutEntry h.distinct hmem
    have stands : e.units = e.owed + pairK e.pair := rfl
    have out := h.setArrears (k := withoutEntry s.arrears e.serial) (m := n + pairK e.pair + e.owed)
      (h.distinct.sublist (List.filter_sublist.map _)) (by omega)
    have charged := (out.place (.collected p e.serial e.owed (pairK e.pair))).charge
    dsimp only
    have reads : ((State.place { s with arrears := withoutEntry s.arrears e.serial }
        (.collected p e.serial e.owed (pairK e.pair))).booth p).Reads := by
      rw [State.place_booth]
      exact hr
    split
    next q hq =>
      rw [hq] at charged reads ⊢
      exact charged.takePair (reads.of_sameCard (charge_sameCard ..))
    next hq =>
      rw [hq] at charged ⊢
      exact charged

/-! ## Cards (R6 to R9) -/

/-- A card identified: its last serial, its entry, its credit (R7). -/
theorem State.Books.identified (h : s.Books (termsAt x p (x p).unsettled) n) (hr : (s.booth p).Reads)
    (hs : (s.booth p).serial ≠ none) : (s.identified p).Books x n := by
  unfold State.identified
  split
  next hnone => exact absurd hnone hs
  next k _ =>
    have named : (s.onBooth p fun b => { b with lastSerial := if b.callUp then some k else b.lastSerial }).Books
        (termsAt x p (x p).unsettled) n := h.onSame
    refine (named.collect ?_ k).evaluate
    exact hr.of_sameCard (onBooth_sameCard ⟨rfl, rfl, rfl, rfl, rfl, id⟩)

theorem Booth.enterVacant_state (b : Booth) : b.enterVacant.state = .vacant := by
  unfold Booth.enterVacant Booth.applyMode
  split
  · split <;> rfl
  · rfl

theorem Booth.enterVacant_sameCard (b : Booth) : b.SameCard b.enterVacant := by
  unfold Booth.enterVacant Booth.applyMode
  split
  · split <;> exact ⟨rfl, rfl, rfl, rfl, rfl, by simp⟩
  · exact ⟨rfl, rfl, rfl, rfl, rfl, by simp⟩

theorem Booth.enterVacant_owed (b : Booth) : b.enterVacant.owed = b.owed := by
  unfold Booth.enterVacant Booth.applyMode
  split
  · split <;> rfl
  · rfl

theorem State.Books.enterVacant (h : s.Books x n) (p : Position) : (s.onBooth p Booth.enterVacant).Books x n := by
  have same := (s.booth p).enterVacant_sameCard
  have hstate := (s.booth p).enterVacant_state
  exact h.onBooth (fun _ => .of_state (by simp [hstate]) (by simp [hstate])) same.fault (s.booth p).enterVacant_owed
    same.present same.serialHigh same.serialLow same.known same.pendingRes

theorem State.Books.afterRemoval (h : s.Books x n) (hk : (s.booth p).known = none) : (s.afterRemoval p).Books x n := by
  unfold State.afterRemoval
  split
  · exact h.enterVacant p
  · exact h.enterGrace hk
  all_goals exact h

/-- A booth with its card gone. -/
def Booth.gone (b : Booth) : Booth := { b.forgetCard with present := .no, expected := none, owed := 0, pendingRes := none }

/-- What a removal leaves at its booth before the state follows (R9). -/
theorem booth_removed (s : State) (p : Position) (c : Intercept) (debt : Option Nat) (u : Nat) (pair : Option Pair) :
    ((((s.setBooth p (s.booth p).gone).setSlot p c).sendOut p debt u pair).booth p) = (s.booth p).gone := by
  rw [booth_sendOut_of_holdless]
  · simp
  · exact fun k => Booth.holds_of_notPresent (by simp [Booth.gone]) k

theorem removeCard_eq (s : State) (p : Position) (fixed : Option Nat) :
    s.removeCard p fixed =
      (((s.setBooth p (s.booth p).gone).setSlot p { s.slot p with inFlight := none, lock := 0, held := none }).sendOut p
        (match fixed with | some n => some n | none => (s.booth p).debtSerial) (s.booth p).owed
        (outPair (s.slot p) (s.booth p))).afterRemoval p := rfl

theorem State.Books.removeCard (h : s.Books x n) (hx : (x p).Acting) (fixed : Option Nat) :
    (s.removeCard p fixed).Books x n := by
  have hp := h.each p
  have gone : (x p).Hold (s.booth p).gone { s.slot p with inFlight := none, lock := 0, held := none } := {
    noCard := fun _ => ⟨rfl, rfl, rfl, rfl⟩
    bounded := forall_none
    resolved := fun _ _ => rfl
    fault := fun _ => ⟨rfl, rfl, rfl, rfl, rfl, forall_none⟩
    inFlight := forall_none
    held := forall_none
    record := hp.record.of_ne_sound hx.rule
    credit := fun _ => .of_unknown rfl
    alive := fun ha => absurd ha hx.alive
    present := fun ha => absurd ha hx.present }
  have out := h.write (p := p) gone (m := n + ((s.booth p).owed + pairK (outPair (s.slot p) (s.booth p)))) (by
    rw [hp.units_out hx.resolved]
    simp only [unitsAt, Booth.gone, Intercept.k, pairK]
    omega)
  rw [termsAt_eq_self] at out
  rw [removeCard_eq]
  refine (out.sendOut p _).afterRemoval ?_
  rw [booth_removed]
  rfl

/-- After a removal no card is there, and no FAULT was entered (R9). -/
theorem removeCard_booth (s : State) (p : Position) (fixed : Option Nat) (h : (s.booth p).state ≠ .fault) :
    ((s.removeCard p fixed).booth p).present ≠ .yes ∧ ((s.removeCard p fixed).booth p).state ≠ .fault := by
  have after : ∀ u : State, u.booth p = (s.booth p).gone → (u.booth p).SameCard ((u.afterRemoval p).booth p) := by
    intro u _
    unfold State.afterRemoval
    split
    · exact onBooth_sameCard (u.booth p).enterVacant_sameCard
    · exact enterGrace_sameCard ..
    all_goals exact .refl _
  have removed := booth_removed s p { s.slot p with inFlight := none, lock := 0, held := none }
    (match fixed with | some n => some n | none => (s.booth p).debtSerial) (s.booth p).owed (outPair (s.slot p) (s.booth p))
  have same := after _ removed
  rw [← removeCard_eq, removed] at same
  refine ⟨?_, fun hf => h (same.fault hf)⟩
  rw [same.present]
  simp [Booth.gone]

theorem State.Books.settleUnknown (h : s.Books (termsAt x p (x p).unsettled) n) (hk : (s.booth p).known = none) :
    s.Books x n := h.restore (h.at.settle (.of_unknown hk))

/-- An update of a booth that leaves credit to be evaluated, and card, balance, W and pending resolution alone. -/
theorem State.Books.onState (h : s.Books x n) (hfault : b'.state = .fault → (s.booth p).state = .fault)
    (howed : b'.owed = (s.booth p).owed := by rfl) (hpresent : b'.present = (s.booth p).present := by rfl)
    (hhigh : b'.serialHigh = (s.booth p).serialHigh := by rfl) (hlow : b'.serialLow = (s.booth p).serialLow := by rfl)
    (hknown : b'.known = (s.booth p).known := by rfl) (hres : b'.pendingRes = (s.booth p).pendingRes := by rfl) :
    (s.setBooth p b').Books (termsAt x p (x p).unsettled) n :=
  (h.relax p).onBooth (by rw [termsAt_self]; exact False.elim) hfault howed hpresent hhigh hlow hknown hres

/-- With no card present credit is not defined (R3), so that a grace time starts with credit evaluated. -/
theorem State.Books.enterGraceNoCard (h : s.Books (termsAt x p (x p).unsettled) n) (hno : (s.booth p).present ≠ .yes) :
    (s.enterGrace p).Books x n :=
  have known := (h.at.noCard hno).1
  (h.settleUnknown known).enterGrace known

theorem State.Books.startResumed (h : s.Books x n) (p : Position) : (s.startResumed p).Books x n := by
  unfold State.startResumed
  dsimp only
  split
  · split
    · refine State.Books.evaluate ?_
      rw [State.onBooth_eq]
      exact h.onState (by simp)
    next hno =>
      refine State.Books.enterGraceNoCard ?_ hno
      rw [State.onBooth_eq]
      exact h.onState (by simp)
  · exact (h.onSame (p := p)).enterClearing ..

/-- The booth of a card just inserted. -/
def Booth.inserted (b : Booth) : Booth :=
  { b.forgetCard with present := .yes, state := if b.state = .vacant then .card else b.state }

theorem Booth.inserted_fault (b : Booth) (h : b.inserted.state = .fault) : b.state = .fault := by
  unfold Booth.inserted at h
  dsimp only at h
  split at h
  · exact nomatch h
  · exact h

theorem State.Books.insertCard (h : s.Books x n) (hrule : (x p).rule ≠ .sound) (hno : (s.booth p).present ≠ .yes) :
    (s.insertCard p).Books x n := by
  have hp := h.each p
  obtain ⟨known, res, hk, held⟩ := hp.noCard hno
  have inserted : (x p).Hold (s.booth p).inserted (s.slot p) := {
    noCard := fun hn => absurd rfl hn
    bounded := forall_none
    resolved := fun _ hne => absurd rfl hne
    fault := fun hf => ⟨rfl, rfl, rfl, res, held, (hp.fault ((s.booth p).inserted_fault hf)).2.2.2.2.2⟩
    inFlight := fun r hr => by
      obtain ⟨prior, covered⟩ := hp.inFlight r hr
      exact ⟨fun k hk => absurd (prior k hk).1 (by simp [known]), covered⟩
    held := fun y hy => nomatch held.symm.trans hy
    record := hp.record.of_ne_sound hrule
    credit := fun _ => .of_unknown rfl
    alive := fun ha hf => hp.alive ha ((s.booth p).inserted_fault hf)
    present := fun _ => rfl }
  have written := h.setBooth inserted (m := n) rfl
  rw [termsAt_eq_self] at written
  exact .ite (fun _ => written.startResumed p) fun _ => written

/-- After an insertion the card is there, with nothing of it known (R6). -/
theorem insertCard_booth (s : State) (p : Position) (h : (s.booth p).state ≠ .fault) :
    ((s.insertCard p).booth p).Reads ∧ ((s.insertCard p).booth p).known = none := by
  have inserted : (s.booth p).inserted.SameCard ((s.insertCard p).booth p) := by
    have written : (s.setBooth p (s.booth p).inserted).booth p = (s.booth p).inserted := State.booth_setBooth_self ..
    unfold State.insertCard
    dsimp only
    split
    · have resumed := startResumed_sameCard (s.setBooth p (s.booth p).inserted) p
      rwa [written] at resumed
    · exact written ▸ Booth.SameCard.refl _
  exact ⟨⟨inserted.present, fun hf => h ((s.booth p).inserted_fault (inserted.fault hf))⟩, inserted.known⟩

theorem Terms.Hold.setHalves (h : t.Hold b c) (hr : b.state ≠ .fault) (high low : Option Nat) :
    t.unsettled.Hold { b with serialHigh := high, serialLow := low } c :=
  { h with fault := fun hf => absurd hf hr, credit := False.elim }

theorem State.Books.identify (h : s.Books (termsAt x p (x p).unsettled) n) (hx : (x p).Acting) (hr : (s.booth p).Reads)
    (hnone : (s.booth p).serial = none → (x p).settled → SettledAt (s.booth p) (s.slot p)) : (s.identify p).Books x n := by
  unfold State.identify
  dsimp only
  split
  next hs => exact h.restore { h.at with credit := hnone hs }
  next k hs =>
    split
    · exact h.identified hr (by simp [hs])
    · split
      · refine State.Books.identified (h.onSame (p := p)) ?_ ?_
        · exact hr.of_sameCard (onBooth_sameCard ⟨rfl, rfl, rfl, rfl, rfl, id⟩)
        · rw [State.onBooth_eq, State.booth_setBooth_self]
          exact ne_of_eq_of_ne hs (by simp)
      next e _ _ =>
        have hx' : (termsAt x p (x p).unsettled p).Acting := by
          rw [termsAt_self]
          exact hx.unsettled
        obtain ⟨hno, alive⟩ := removeCard_booth s p (some e) hr.alive
        have changed := (h.removeCard hx' (some e)).insertCard hx'.rule hno
        obtain ⟨reads, -⟩ := insertCard_booth (s.removeCard p (some e)) p alive
        have read := changed.setBooth (changed.at.setHalves reads.alive (s.booth p).serialHigh (s.booth p).serialLow)
          (m := n) rfl
        rw [termsAt_termsAt] at read
        refine State.Books.identified read ?_ ?_
        · rw [State.onBooth_eq, State.booth_setBooth_self]
          exact ⟨reads.present, reads.alive⟩
        · rw [State.onBooth_eq, State.booth_setBooth_self]
          exact ne_of_eq_of_ne hs (by simp)

theorem Booth.withHalf_eq (b : Booth) (high : Bool) (v : Nat) : b.withHalf high v = { b with
    serialHigh := if high then some v else b.serialHigh, serialLow := if high then b.serialLow else some v } := by
  cases high <;> rfl

theorem booth_dropHeldRead (s : State) (p q : Position) (a : WordAddr) : (s.dropHeldRead p a).booth q = s.booth q := rfl

theorem k_dropHeldRead (s : State) (p : Position) (a : WordAddr) : ((s.dropHeldRead p a).slot p).k = (s.slot p).k := by
  simp only [State.dropHeldRead, State.onSlot_eq, State.slot_setSlot_self]
  split <;> rfl

theorem State.Books.readHalf (h : s.Books x n) (hx : (x p).Acting) (hr : (s.booth p).Reads) (high : Bool) (v : Nat) :
    (s.readHalf p high v).Books x n := by
  unfold State.readHalf
  split
  · have read := h.setBooth ((h.each p).setHalves hr.alive (if high then some v else (s.booth p).serialHigh)
      (if high then (s.booth p).serialLow else some v)) (m := n) rfl
    rw [← Booth.withHalf_eq] at read
    have dropped := read.dropHeldRead (p := p) (by rw [termsAt_self]; exact hx.rule) (if high then 0 else 1)
    refine dropped.identify hx ?_ fun hs hc => ?_
    · rw [booth_dropHeldRead, State.booth_setBooth_self, Booth.withHalf_eq]
      exact ⟨hr.present, hr.alive⟩
    · have settled := (h.each p).credit hc
      rw [booth_dropHeldRead, State.booth_setBooth_self] at hs ⊢
      refine ⟨fun k hstate hcredit => ?_, fun k _ _ hsome => by simp [hs] at hsome⟩
      rw [Booth.withHalf_eq] at hstate hcredit
      refine settled.call k hstate ?_
      simpa [Machine.credit, k_dropHeldRead] using hcredit
  · split
    · exact h
    · obtain ⟨hno, alive⟩ := removeCard_booth s p none hr.alive
      have changed := (h.removeCard hx none).insertCard hx.rule hno
      obtain ⟨reads, known⟩ := insertCard_booth (s.removeCard p none) p alive
      have read := changed.setBooth ((changed.each p).setHalves reads.alive
        (if high then some v else ((s.removeCard p none).insertCard p |>.booth p).serialHigh)
        (if high then ((s.removeCard p none).insertCard p |>.booth p).serialLow else some v)) (m := n) rfl
      rw [← Booth.withHalf_eq] at read
      refine read.settleUnknown ?_
      rw [State.booth_setBooth_self, Booth.withHalf_eq]
      exact known

end Sys2Proof.Machine

namespace Sys2Proof.Machine

variable {x : Position → Terms} {t t' : Terms} {b b' : Booth} {c c' : Intercept} {s : State} {p : Position} {m n : Nat}

/-! ## Calls (R10 to R21) -/

theorem State.Books.startCall (h : s.Books x n) (p : Position) : (s.startCall p).Books x n := by
  unfold State.startCall
  dsimp only
  split
  next e _ =>
    refine State.Books.evaluate (State.Books.charge (State.Books.addAccrued ?_ _))
    rw [State.onBooth_eq]
    exact h.onState (by simp)
  next => exact (h.onSame (p := p)).enterClearing ..

theorem State.Books.startFaultCall (h : s.Books x n) (p : Position) : (s.startFaultCall p).Books x n :=
  (h.onSame (p := p)).place _

theorem State.Books.answerRise (h : s.Books x n) (p : Position) : (s.answerRise p).Books x n := by
  unfold State.answerRise
  split
  · exact h.startCall p
  · exact h.onBooth (fun _ => .of_state (by simp) (by simp)) (by simp)
  · exact h.startFaultCall p
  all_goals exact h

theorem State.Books.checkResume (h : s.Books x n) (p : Position) : (s.checkResume p).Books x n := by
  unfold State.checkResume State.resumeFound
  split
  · split
    · exact State.Books.startFaultCall (h.onSame (p := p)) p
    · exact .ite (fun _ => h) fun _ => h.startResumed p
  · exact h.onSame (p := p)
  · exact h

/-- Units that leave a booth with no write held, its card, balance and state as they are. -/
structure Booth.PaysOut (b b' : Booth) : Prop where
  present : b'.present = b.present
  serialHigh : b'.serialHigh = b.serialHigh
  serialLow : b'.serialLow = b.serialLow
  known : b'.known = b.known
  state : b'.state = b.state
  pendingRes : b'.pendingRes = none

theorem Terms.Hold.payOut (h : t.Hold b c) (hb : b.PaysOut b') (hheld : c.held = none) (hknown : b.known = none) :
    t.Hold b' c where
  noCard hn := by
    obtain ⟨known, -, k, held⟩ := h.noCard (hb.present ▸ hn)
    exact ⟨hb.known.trans known, hb.pendingRes, k, held⟩
  bounded := by rw [hb.known]; exact h.bounded
  resolved _ _ := hb.pendingRes
  fault hf := by
    obtain ⟨high, low, known, -, held, word⟩ := h.fault (hb.state ▸ hf)
    exact ⟨hb.serialHigh.trans high, hb.serialLow.trans low, hb.known.trans known, hb.pendingRes, held, word⟩
  inFlight r hr := by
    obtain ⟨prior, covered⟩ := h.inFlight r hr
    exact ⟨fun k hk => hb.known ▸ prior k hk, covered⟩
  held y hy := nomatch hheld.symm.trans hy
  record := h.record.congr (fun hf => hb.state ▸ hf) hb.known
  credit _ := .of_unknown (hb.known.trans hknown)
  alive ha := by rw [hb.state]; exact h.alive ha
  present hp := hb.present.trans (h.present hp)

/-- A call ends (R17): with the card gone, W and the pair leave. -/
theorem State.Books.endCall (h : s.Books x n) (p : Position) : (s.endCall p).Books x n := by
  have placed := h.place (.callEnd p (s.booth p))
  unfold State.endCall
  dsimp only
  split
  · have hb : (s.place (.callEnd p (s.booth p))).booth p = s.booth p := State.place_booth ..
    refine placed.onBooth (fun _ => .of_state (by simp) (by simp)) (by simp) ?_ ?_ ?_ ?_ ?_ ?_ <;> rw [hb]
  next hno =>
    have hp := h.each p
    obtain ⟨known, -, k, held⟩ := hp.noCard hno
    have out := h.setBooth (p := p) (m := n + ((s.booth p).owed + pairK (s.booth p).pendingRes))
      (hp.payOut (b' := { s.booth p with
        fraction := 0, rate := none, callUp := false, grace := 0, timer := none, resumed := .no, band := none,
        lastSerial := none, owed := 0, pendingRes := none }) ⟨rfl, rfl, rfl, rfl, rfl, rfl⟩ held known)
      (by simp only [unitsAt, k, pairK]; omega)
    rw [termsAt_eq_self] at out
    rw [State.place_setBooth]
    exact ((out.place _).sendOut p _).enterVacant p

/-- A call ends in FAULT (R19): W leaves. -/
theorem State.Books.endFaultCall (h : s.Books x n) (hf : (s.booth p).state = .fault) : (s.endFaultCall p).Books x n := by
  have hp := h.each p
  obtain ⟨-, -, known, res, held, -⟩ := hp.fault hf
  have out := h.setBooth (p := p) (m := n + ((s.booth p).owed + pairK none))
    (hp.payOut (b' := { s.booth p with
      fraction := 0, rate := none, callUp := false, timer := none, owed := 0, lastSerial := none })
      ⟨rfl, rfl, rfl, rfl, rfl, res⟩ held known)
    (by simp only [unitsAt, res, pairK]; omega)
  rw [termsAt_eq_self] at out
  unfold State.endFaultCall
  dsimp only
  rw [State.place_setBooth]
  exact (out.place _).sendOut p _

theorem State.Books.lineFall (h : s.Books x n) (p : Position) : (s.lineFall p).Books x n := by
  unfold State.lineFall
  split
  · split
    next hf => exact h.endFaultCall hf
    next => exact h.endCall p
  · exact .ite (fun _ => h.onSame (p := p)) fun _ => h

/-! ## Reader faults (R18, R19, R149 to R152) -/

theorem State.Books.enterFault (h : s.Books x n) (hx : (x p).Acting) : (s.enterFault p).Books x n := by
  have hp := h.each p
  have faulted : ∀ timer, (x p).Hold
      { s.booth p with
        serialHigh := none, serialLow := none, expected := none, known := none, present := .yes, owed := 0,
        pendingRes := none, state := .fault, grace := 0, timer := timer }
      { s.slot p with inFlight := none, held := none } := fun timer => {
    noCard := fun hn => absurd rfl hn
    bounded := forall_none
    resolved := fun _ _ => rfl
    fault := fun _ => ⟨rfl, rfl, rfl, rfl, rfl, forall_none⟩
    inFlight := forall_none
    held := forall_none
    record := hp.record.of_ne_sound hx.rule
    credit := fun _ => .of_unknown rfl
    alive := fun ha => absurd ha hx.alive
    present := fun ha => absurd ha hx.present }
  have out := fun timer => h.write (p := p) (faulted timer)
    (m := n + ((s.booth p).owed + pairK (outPair (s.slot p) (s.booth p)))) (by
      rw [hp.units_out hx.resolved]
      simp only [unitsAt, Intercept.k, pairK]
      omega)
  simp only [termsAt_eq_self] at out
  unfold State.enterFault
  dsimp only
  rw [State.place_setBooth, State.place_setSlot]
  exact (((out _).place _).sendOut p _).placeIf ..

theorem State.Books.declareFault (h : s.Books x n) (hx : (x p).Acting) : (s.declareFault p).Books x n := by
  unfold State.declareFault
  split
  next hf =>
    have hp := h.each p
    have hk : (s.slot p).k = 0 := hp.k_eq_zero (hp.fault hf).2.2.1
    rw [State.onSlot_eq, State.place_setSlot, State.place_slot]
    exact (h.clearRecord hx.rule hk).place _
  next => exact h.enterFault hx

theorem State.Books.leaveFault (h : s.Books x n) (hx : (x p).Acting) (hf : (s.booth p).state = .fault) :
    (s.leaveFault p).Books x n := by
  have hp := h.each p
  obtain ⟨-, -, known, res, held, -⟩ := hp.fault hf
  have left : (x p).Hold { (s.booth p).forgetCard with present := .no, owed := 0 }
      { s.slot p with inFlight := none, lock := 0, held := none } := {
    noCard := fun _ => ⟨rfl, res, rfl, rfl⟩
    bounded := forall_none
    resolved := fun _ _ => res
    fault := fun _ => ⟨rfl, rfl, rfl, res, rfl, forall_none⟩
    inFlight := forall_none
    held := forall_none
    record := hp.record.of_ne_sound hx.rule
    credit := fun _ => .of_unknown rfl
    alive := fun ha => absurd ha hx.alive
    present := fun ha => absurd ha hx.present }
  have out := h.write (p := p) left (m := n + ((s.booth p).owed + pairK none)) (by
    rw [unitsAt, unitsAt, hp.k_eq_zero known]
    simp only [Booth.forgetCard, res, Intercept.k, pairK]
    omega)
  rw [termsAt_eq_self] at out
  have vacant := fun b : Booth => Booth.enterVacant_state b
  unfold State.leaveFault
  dsimp only
  rw [State.onSlot_eq, State.setBooth_slot]
  have gone := (out.sendOut p (s.booth p).lastSerial).placeIf (s.booth p).callUp (.callEnd p (s.booth p))
  generalize (((((s.setBooth p { (s.booth p).forgetCard with present := .no, owed := 0 }).setSlot p
    { s.slot p with inFlight := none, lock := 0, held := none }).sendOut p (s.booth p).lastSerial (s.booth p).owed
    none).placeIf (s.booth p).callUp (.callEnd p (s.booth p)))) = v at gone
  have cleared : (v.setBooth p { v.booth p with
      rate := none, fraction := 0, callUp := false, lastSerial := none, timer := none }).Books x n := gone.onSame
  have entered := cleared.enterVacant p
  rwa [State.onBooth_eq, State.booth_setBooth_self, State.setBooth_setBooth] at entered

/-! ## Ticks (R36 to R40, R78) -/

theorem State.Books.accrue (h : s.Books x n) (p : Position) (rate : Nat) : (s.accrue p rate).Books x n := by
  unfold State.accrue
  dsimp only
  split
  next hzero =>
    have counted := (h.onSame (p := p) (b' := { s.booth p with
      rate := some (s.reselect p rate),
      fraction := ((s.booth p).fraction + s.reselect p rate) % Config.quantaPerUnit,
      callUnits := min Config.unitsMax
        ((s.booth p).callUnits + ((s.booth p).fraction + s.reselect p rate) / Config.quantaPerUnit) })).addAccrued
      (((s.booth p).fraction + s.reselect p rate) / Config.quantaPerUnit)
    rwa [hzero] at counted ⊢
  next =>
    refine State.Books.evaluate (State.Books.charge (State.Books.addAccrued ?_ _))
    rw [State.onBooth_eq]
    exact h.onState id

theorem State.Books.countGrace (h : s.Books x n) (p : Position) : (s.countGrace p).Books x n :=
  .ite (fun _ => h.enterClearing ..) fun _ => h.onSame (p := p)

theorem State.Books.moveTimer (h : s.Books x n) (p : Position) : (s.moveTimer p).Books x n :=
  .ite (fun _ => h.onSame (p := p)) fun _ => h

theorem State.Books.tickBooth (h : s.Books x n) (p : Position) : (s.tickBooth p).Books x n := by
  unfold State.tickBooth
  extract_lets b s1 s2
  have accrued : s1.Books x n := by
    dsimp only [s1]
    split
    · exact h.accrue ..
    · exact h
  have counted : s2.Books x n := .ite (fun _ => accrued.countGrace p) fun _ => accrued
  exact .ite (fun _ => counted.moveTimer p) fun _ => counted

theorem State.Books.forAll {f : Position → State → State} (h : s.Books x n)
    (hf : ∀ p s, s.Books x n → (f p s).Books x n) : (s.forAll f).Books x n := forAll_induct hf s h

theorem expire_arrears (s : State) (e : ArrearsEntry) : (s.expire e).arrears = withoutEntry s.arrears e.serial := by
  simp [State.expire]

/-- Entries that expire one after another, each still in the list when its turn comes (R79). -/
theorem State.Books.foldl_expire {l : List ArrearsEntry} (h : s.Books x n) (hl : (l.map ArrearsEntry.serial).Nodup)
    (hmem : ∀ e ∈ l, e ∈ s.arrears) : (l.foldl (fun s e => s.expire e) s).Books x n := by
  induction l generalizing s with
  | nil => exact h
  | cons e l ih =>
    obtain ⟨he, hmem⟩ := List.forall_mem_cons.mp hmem
    rw [List.map_cons, List.nodup_cons] at hl
    refine ih (h.expire he) hl.2 fun y hy => ?_
    have kept : y ∈ withoutEntry s.arrears e.serial := by
      refine List.mem_filter.mpr ⟨hmem y hy, ?_⟩
      simpa using fun heq : y.serial = e.serial => hl.1 (heq ▸ List.mem_map_of_mem hy)
    rwa [expire_arrears]

theorem State.Books.ageEntries (h : s.Books x n) : s.ageEntries.Books x n := by
  have serials : ((s.arrears.map fun e => { e with age := e.age + 1 }).map ArrearsEntry.serial) =
      s.arrears.map ArrearsEntry.serial := by simp [Function.comp_def]
  have units : ((s.arrears.map fun e => { e with age := e.age + 1 }).map ArrearsEntry.units) =
      s.arrears.map ArrearsEntry.units := by simp [Function.comp_def, ArrearsEntry.units]
  have distinct : ((s.arrears.map fun e => { e with age := e.age + 1 }).map ArrearsEntry.serial).Nodup := by
    rw [serials]
    exact h.distinct
  have aged := h.setArrears (m := n) distinct (by rw [units])
  exact aged.foldl_expire (distinct.sublist (List.filter_sublist.map _)) fun e he => (List.mem_filter.mp he).1

theorem State.Books.toggleFlash (h : s.Books x n) : s.toggleFlash.Books x n := h.of_same

theorem State.Books.tick (h : s.Books x n) : s.tick.Books x n := by
  unfold State.tick
  dsimp only
  have ticked : ∀ k, (State.forAll { s with divider := 0, tickCount := k, sup := s.sup.tick } State.tickBooth).Books x n :=
    fun k => (h.of_same : State.Books x n { s with divider := 0, tickCount := k, sup := s.sup.tick }).forAll
      fun p s hs => hs.tickBooth p
  have aged : ∀ u : State, u.Books x n → (if (s.tickCount + 1) % Config.ticksPerAgeStep = 0 then u.ageEntries else u).Books x n :=
    fun u hu => .ite (fun _ => hu.ageEntries) fun _ => hu
  exact aged _ (.ite (fun _ => (ticked _).toggleFlash) fun _ => ticked _)

/-! ## Line events (R130 to R134) -/

theorem State.Books.loopEvent (h : s.Books x n) (p : Position) (e : LineEvent) : (s.loopEvent p e).Books x n := by
  cases e with
  | first high => exact .ite (fun _ => State.Books.checkResume (h.onSame (p := p)) p) fun _ => h
  | rise => exact h
  | fall => exact h.lineFall p

theorem State.Books.answerEvent (h : s.Books x n) (p : Position) (e : LineEvent) : (s.answerEvent p e).Books x n := by
  cases e with
  | first high => exact .ite (fun _ => State.Books.checkResume (h.onSame (p := p)) p) fun _ => h
  | rise => exact .ite (fun _ => h.answerRise p) fun _ => h
  | fall => exact h.lineFall p

theorem State.Books.deliver {act : State → LineEvent → State} (h : s.Books x n) (p : Position) (e : Option LineEvent)
    (hact : ∀ u y, u.Books x n → (act u y).Books x n) : (s.deliver p e act).Books x n := by
  unfold State.deliver
  split
  · exact h
  · exact .ite (fun _ => h) fun _ => hact _ _ h

theorem State.Books.sampleBooth (h : s.Books x n) (rows : Byte) (p : Position) : (s.sampleBooth rows p).Books x n := by
  have scanned : ∀ (u : State) scan, u.Books x n → { u with scan := scan }.Books x n := fun _ _ hu => hu.of_same
  have loop : (s.sampleLoop p (rows.getLsbD (evenRow p))).Books x n := by
    unfold State.sampleLoop
    exact (scanned s _ h).deliver p _ fun u y hu => hu.loopEvent p y
  unfold State.sampleBooth State.sampleAnswer
  exact (scanned _ _ loop).deliver p _ fun u y hu => hu.answerEvent p y

theorem State.Books.sampleColumn (h : s.Books x n) (rows : RowInputs) : (s.sampleColumn rows).Books x n := by
  have ended : { s with scan := s.scan.endSense }.Books x n := h.of_same
  unfold State.sampleColumn
  generalize ({ s with scan := s.scan.endSense } : State) = u at ended
  induction columnPositions s.scan.column generalizing u with
  | nil => exact ended
  | cons p l ih => exact ih _ (ended.sampleBooth _ p)

theorem State.Books.takeSample (h : s.Books x n) : s.takeSample.Books x n := by
  unfold State.takeSample
  split
  · exact h
  · have drawn : { s with draws := s.draws + 1 }.Books x n := h.of_same
    exact State.Books.sampleColumn (s := { s with draws := s.draws + 1 }) drawn
      { driven := Config.rowsDriven s.draws, level := Config.lineLevels s.draws }

theorem State.Books.endSegment (h : s.Books x n) : s.endSegment.Books x n := by
  unfold State.endSegment
  split
  · exact h
  · exact h.takeSample.of_same
  · exact h.of_same

/-! ## Tables (R154 to R161) -/

theorem State.Books.takePosition (h : s.Books x n) (number mode : Byte) : (s.takePosition number mode).Books x n := by
  unfold State.takePosition
  split
  next q _ =>
    have same : ∀ f : Booth → Booth, (∀ b, (f b).state = b.state ∧ (f b).owed = b.owed ∧ (f b).present = b.present ∧
        (f b).serialHigh = b.serialHigh ∧ (f b).serialLow = b.serialLow ∧ (f b).known = b.known ∧
        (f b).pendingRes = b.pendingRes) → (s.onBooth q f).Books x n := by
      intro f hf
      obtain ⟨state, owed, present, high, low, known, res⟩ := hf (s.booth q)
      exact h.onSame state owed present high low known res
    refine same _ fun b => ?_
    unfold Booth.deliverMode Booth.applyMode
    split
    · split <;> exact ⟨rfl, rfl, rfl, rfl, rfl, rfl, rfl⟩
    · exact ⟨rfl, rfl, rfl, rfl, rfl, rfl, rfl⟩
  next => exact h

theorem State.Books.takeTableWord (h : s.Books x n) (table : TableBytes) : (s.takeTableWord table).Books x n := by
  unfold State.takeTableWord
  split
  · unfold State.takeTariff
    split
    · exact h.of_same
    · exact h
  · unfold State.takeSchedule
    split
    · exact h.of_same
    · exact h
  · exact h.of_same
  · exact h.takePosition ..
  · exact h

theorem State.Books.restartReports (h : s.Books x n) : s.restartReports.Books x n := by
  have emptied : { s with reports := [], lost := 0, port := { s.port with recordHeld := false } }.Books x n := h.of_same
  exact emptied.forAll fun p s hs => hs.onSlotSame (p := p)

end Sys2Proof.Machine

namespace Sys2Proof.Machine

variable {x : Position → Terms} {t t' : Terms} {b b' : Booth} {c c' : Intercept} {s : State} {p : Position} {m n : Nat}

/-! ## Replies (R120) -/

theorem slots_evaluate (s : State) (p : Position) : (s.evaluate p).slots = s.slots := by
  rw [evaluate_frame]
  rfl

theorem slots_settlePending (s : State) (p : Position) : (s.settlePending p).slots = s.slots := by
  unfold State.settlePending
  split
  · rw [slots_evaluate, slots_charge]
    rfl
  · rfl

theorem slots_startResumed (s : State) (p : Position) : (s.startResumed p).slots = s.slots := by
  unfold State.startResumed
  dsimp only
  split
  · split
    · rw [slots_evaluate]
      rfl
    · rfl
  · exact slots_enterClearing ..

theorem slots_insertCard (s : State) (p : Position) : (s.insertCard p).slots = s.slots := by
  unfold State.insertCard
  dsimp only
  split
  · exact slots_startResumed ..
  · rfl

theorem inFlight_setKnown (s : State) (p : Position) (v : Nat) :
    ((s.setKnown p v).slot p).inFlight = (s.slot p).inFlight := by
  unfold State.setKnown
  split
  · rfl
  · rw [State.slot, slots_evaluate, slots_settlePending]
    simp only [State.dropHeldWrite, State.onSlot_eq, ← State.slot.eq_1, State.slot_setSlot_self]
    split <;> rfl

theorem inFlight_learnBalance (s : State) (p : Position) (v : Nat) (own : Bool) :
    ((s.learnBalance p v own).slot p).inFlight = (s.slot p).inFlight := by
  unfold State.learnBalance
  split
  · exact inFlight_setKnown ..
  · rw [inFlight_setKnown]
    simp only [State.dropHeldRead, State.onSlot_eq, State.slot_setSlot_self]
    split <;> rfl

/-- A record that is settled as not performed is gone (R95). -/
theorem inFlight_notPerformed (s : State) (p : Position) (r : InFlight) :
    ((s.notPerformed p r).slot p).inFlight = none := by
  have cleared : ((s.clearRecord p).slot p).inFlight = none := by simp [State.clearRecord]
  unfold State.notPerformed
  split
  · split
    · unfold State.settleRecord
      dsimp only
      rw [State.slot, slots_evaluate, ← State.slot.eq_1, inFlight_learnBalance, State.slot, slots_charge]
      exact congrArg Intercept.inFlight (State.slot_setSlot_self ..)
    · exact cleared
  · exact cleared

/-- The card is as present as before, and the booth in FAULT where it was. -/
structure Booth.SamePlace (b b' : Booth) : Prop where
  present : b'.present = b.present
  fault : b.state = .fault → b'.state = .fault

theorem Booth.SamePlace.refl (b : Booth) : b.SamePlace b := ⟨rfl, id⟩

theorem Booth.SamePlace.trans {b'' : Booth} (h : b.SamePlace b') (h' : b'.SamePlace b'') : b.SamePlace b'' :=
  ⟨h'.present.trans h.present, fun hf => h'.fault (h.fault hf)⟩

theorem setBooth_samePlace {u : State} (hu : u.booths = (s.setBooth p b).booths) (h : (s.booth p).SamePlace b) :
    (s.booth p).SamePlace (u.booth p) := by
  have written : u.booth p = (s.setBooth p b).booth p := by rw [State.booth, hu, State.booth]
  rwa [written, State.booth_setBooth_self]

theorem evaluate_samePlace (s : State) (p : Position) : (s.booth p).SamePlace ((s.evaluate p).booth p) := by
  refine ⟨(evaluate_sameCard s p).present, fun hf => ?_⟩
  rwa [evaluate_of_not_charging (by simp [hf]) (by simp [hf])]

theorem charge_samePlace (s : State) (p : Position) (n : Nat) : (s.booth p).SamePlace ((s.charge p n).booth p) := by
  refine ⟨(charge_sameCard s p n).present, fun hf => ?_⟩
  have added : ((s.addOwed p n).booth p).state = (s.booth p).state := by
    unfold State.addOwed
    dsimp only
    split
    · rw [State.onBooth_eq, State.booth_setBooth_self]
    · rw [booth_dropUnits, State.onBooth_eq, State.booth_setBooth_self]
  unfold State.charge State.clearSaturated
  rw [added, hf]
  split <;> exact added.trans hf

theorem settlePending_samePlace (s : State) (p : Position) : (s.booth p).SamePlace ((s.settlePending p).booth p) := by
  unfold State.settlePending
  split
  next q n _ _ =>
    have debited : (s.booth p).SamePlace
        (((s.onBooth p fun b => { b with pendingRes := none }).addDebited (q.k - q.extra n)).booth p) := setBooth_samePlace rfl ⟨rfl, id⟩
    exact (debited.trans (charge_samePlace ..)).trans (evaluate_samePlace ..)
  · exact .refl _

theorem setKnown_samePlace (s : State) (p : Position) (v : Nat) : (s.booth p).SamePlace ((s.setKnown p v).booth p) := by
  unfold State.setKnown
  split
  · exact .refl _
  · have learned : (s.booth p).SamePlace
        (((s.onBooth p fun b => { b with known := some v }).dropHeldWrite p).booth p) := setBooth_samePlace rfl ⟨rfl, id⟩
    exact (learned.trans (settlePending_samePlace ..)).trans (evaluate_samePlace ..)

theorem settleRecord_samePlace (s : State) (p : Position) (r : InFlight) (v : Nat) (own : Bool) :
    (s.booth p).SamePlace ((s.settleRecord p r v own).booth p) := by
  have learned : ∀ u : State, (u.booth p).SamePlace ((u.learnBalance p v own).booth p) := by
    intro u
    unfold State.learnBalance
    split
    · exact setKnown_samePlace ..
    · exact setKnown_samePlace (u.dropHeldRead p 4) p v
  unfold State.settleRecord
  dsimp only
  exact ((charge_samePlace ((s.onSlot p fun c => { c with inFlight := none }).addDebited _) p _).trans
    (learned _)).trans (evaluate_samePlace ..)

theorem notPerformed_samePlace (s : State) (p : Position) (r : InFlight) :
    (s.booth p).SamePlace ((s.notPerformed p r).booth p) := by
  unfold State.notPerformed
  split
  · split
    · exact settleRecord_samePlace ..
    · exact .refl _
  · exact .refl _

theorem recordStep_samePlace (s : State) (p : Position) (sent : Option SlotRecord) (r : Reply) :
    (s.booth p).SamePlace ((s.recordStep p sent r).booth p) := by
  unfold State.recordStep
  split
  · split
    · split
      · split
        · exact settleRecord_samePlace ..
        · exact .refl _
      · exact notPerformed_samePlace ..
    · exact notPerformed_samePlace ..
    · exact notPerformed_samePlace ..
    · exact notPerformed_samePlace ..
    · exact notPerformed_samePlace ..
    all_goals exact .refl _
  · split
    · split
      · refine Booth.SamePlace.trans ?_ (evaluate_samePlace ..)
        exact setBooth_samePlace rfl ⟨rfl, id⟩
      all_goals exact .refl _
    · exact .refl _

theorem presenceStep_present {r : Reply} (hr : r ≠ .absent) (hf : ((s.presenceStep p r).booth p).state ≠ .fault) :
    ((s.presenceStep p r).booth p).present = .yes := by
  unfold State.presenceStep at hf ⊢
  dsimp only at hf ⊢
  split
  next hfault =>
    rw [if_pos hfault, if_neg hr] at hf
    exact absurd hfault hf
  next hfault =>
    split
    next hyes => exact hyes
    next => exact (insertCard_booth s p hfault).1.present

/-- What a sent write rests on stands also where the reply first inserts the card (R2, R46). -/
theorem presenceStep_opens {q : SlotRecord} {a : WordAddr} {v : Nat} {r : Reply} (hr : r ≠ .absent)
    (h : OpensSoundly q a v (s.booth p) (s.slot p)) :
    OpensSoundly q a v ((s.presenceStep p r).booth p) ((s.presenceStep p r).slot p) := by
  unfold State.presenceStep
  dsimp only
  split
  · exact h
  next hfault =>
    split
    · exact h
    next hno =>
      have slot : (s.insertCard p).slot p = s.slot p := by rw [State.slot, slots_insertCard, State.slot]
      rw [slot]
      exact ⟨h.free, h.own, fun _ => (insertCard_booth s p hfault).1.alive⟩

theorem State.Books.presenceStep (h : s.Books x n) (hx : (x p).Acting) (r : Reply) : (s.presenceStep p r).Books x n := by
  have hp := h.each p
  unfold State.presenceStep
  dsimp only
  split
  next hf => exact .ite (fun _ => h.leaveFault hx hf) fun _ => h
  next =>
    split
    · split
      · exact h.removeCard hx none
      next hunknown =>
        have hno : (s.booth p).present ≠ .yes := by simp [hunknown]
        have cleared := h.clearRecord hx.rule (hp.noCard hno).2.2.1
        have known : ((s.clearRecord p).booth p).known = none := (hp.noCard hno).1
        have gone : (x p).Hold { (s.clearRecord p).booth p with present := .no } ((s.clearRecord p).slot p) :=
          { cleared.each p with
            noCard := fun _ => (cleared.each p).noCard hno
            credit := fun _ => .of_unknown known
            present := fun hpres => absurd hpres hx.present }
        have absent := cleared.setBooth gone (m := n) rfl
        rw [termsAt_eq_self] at absent
        exact .ite (fun _ => absent.startResumed p) fun _ => absent
      next hno => exact h.clearRecord hx.rule (hp.noCard (by simp [hno])).2.2.1
    · split
      · exact h
      next hno => exact h.insertCard hx.rule hno

theorem State.Books.recordStep {sent : Option SlotRecord} {r : Reply} (h : s.Books x n) (hx : (x p).Acting)
    (hread : r ≠ .absent → (s.booth p).state ≠ .fault → (s.booth p).present = .yes)
    (hsent : ∀ q a v, sent = some q → q.sent = .write a v → r ≠ .absent →
      OpensSoundly q a v (s.booth p) (s.slot p)) : (s.recordStep p sent r).Books x n := by
  have hp := h.each p
  unfold State.recordStep
  split
  next y hy =>
    have hk : (s.slot p).k = y.k := by simp [Intercept.k, hy]
    split
    next a v =>
      split
      next hword =>
        split
        next ha =>
          have alive : (s.booth p).state ≠ .fault := fun hf => by
            obtain ⟨-, -, -, -, -, word⟩ := hp.fault hf
            exact word y hy (hword.trans ha)
          exact h.settleRecord hx.rule ⟨hread nofun alive, alive⟩ hy (word_le v) _
        next ha => exact h.clearRecord hx.rule (hk.trans ((hp.inFlight y hy).k_eq_zero (hword ▸ ha)))
      next => exact h.notPerformed hx.rule (hread nofun) hy
    · exact h.notPerformed hx.rule (hread nofun) hy
    · exact h.notPerformed hx.rule (hread nofun) hy
    · exact h.notPerformed hx.rule (hread nofun) hy
    · exact h.notPerformed hx.rule (hread nofun) hy
    all_goals exact h
  next =>
    split
    next a q =>
      split
      next b v hq => exact h.openRecord hx.rule hx.slack (hsent q b v rfl hq nofun)
      all_goals exact h
    · exact h

/-- After step 2 no write is in flight under a reply that carries a word to step 3 (R126). -/
theorem recordStep_free {sent : Option SlotRecord} {r : Reply} (hword : (∃ a v, r = .data a v) ∨ ∃ a v, r = .written a v)
    (hs : settles (s.slot p).inFlight r = false) : ((s.recordStep p sent r).slot p).inFlight = none := by
  unfold State.recordStep
  split
  next y hy =>
    rcases hword with ⟨a, v, rfl⟩ | ⟨a, v, rfl⟩
    · exact inFlight_notPerformed ..
    · have hne : y.word ≠ a := by simpa [settles, hy] using hs
      dsimp only
      rw [if_neg hne]
      exact inFlight_notPerformed ..
  next hnone =>
    rcases hword with ⟨a, v, rfl⟩ | ⟨a, v, rfl⟩ <;> exact hnone

theorem State.Books.learn {v : Nat} (h : s.Books x n) (hx : (x p).Acting) (hr : (s.booth p).Reads)
    (hfree : (s.slot p).inFlight = none) (hv : v ≤ 65535) (own : Bool) : (s.learnBalance p v own).Books x n := by
  by_cases hknown : (s.booth p).known = some v
  · rwa [learnBalance_of_known hknown]
  · exact State.Books.learnBalance (k := (x p).slack) (h.relax p) hx.rule hr hfree hv own hknown

theorem State.Books.wordStep {r : Reply} (h : s.Books x n) (hx : (x p).Acting)
    (hread : r ≠ .absent → (s.booth p).state ≠ .fault → (s.booth p).present = .yes)
    (hfree : (∃ a v, r = .data a v) ∨ (∃ a v, r = .written a v) → (s.slot p).inFlight = none) (own : Bool) :
    (s.wordStep p own r).Books x n := by
  unfold State.wordStep
  split
  · exact h
  next alive =>
    split
    next a v =>
      have reads : (s.booth p).Reads := ⟨hread nofun alive, alive⟩
      refine .ite (fun _ => h.readHalf hx reads ..) fun _ => .ite (fun _ => h.readHalf hx reads ..) fun _ => ?_
      refine .ite (fun _ => h.learn hx reads (hfree (.inl ⟨a, v, rfl⟩)) (word_le v) own) fun _ => ?_
      exact .ite (fun _ => h.onSame (p := p)) fun _ => h
    next a v =>
      have reads : (s.booth p).Reads := ⟨hread nofun alive, alive⟩
      exact .ite (fun _ => h.learn hx reads (hfree (.inr ⟨a, v, rfl⟩)) (word_le v) own) fun _ => h
    next => exact h

theorem State.Books.heldStep (h : s.Books x n) (hx : (x p).Acting) (own : Bool) (r : Reply) :
    (s.heldStep p own r).Books x n := by
  have hp := h.each p
  refine .ite (fun _ => ?_) fun _ => h
  split
  · exact h
  next y hy =>
    split
    · have counted : ∀ tries, (x p).Hold (s.booth p) { s.slot p with held := some { y with tries := tries } } := fun tries => {
        hp with
        noCard := fun hn => absurd (hp.noCard hn).2.2.2 (by simp [hy])
        fault := fun hf => absurd (hp.fault hf).2.2.2.2.1 (by simp [hy])
        held := fun z hz => by
          obtain rfl := Option.some.inj hz
          exact hp.held y hy
        record := hp.record.of_ne_sound hx.rule
        credit := fun hs => (hp.credit hs).of_kept rfl }
      have written := fun tries => h.setSlot (counted tries) (m := n) rfl
      simp only [termsAt_eq_self] at written
      exact .ite (fun _ => (written _).declareFault hx) fun _ => written _
    · split
      · exact .ite (fun _ => h.noHeld hx.rule) fun _ => h
      · exact h

theorem State.Books.lockStep (h : s.Books x n) (p : Position) (held : Option InFlight) (r : Reply) :
    (s.lockStep p held r).Books x n := .ite (fun _ => h.onSlotSame (p := p)) fun _ => h

theorem State.Books.takeReply {sent : Option SlotRecord} (h : s.Books x n) (hx : (x p).Acting) (r : Reply)
    (hsent : ∀ q a v, sent = some q → q.sent = .write a v → OpensSoundly q a v (s.booth p) (s.slot p)) :
    (s.takeReply p sent r).Books x n := by
  have one := h.presenceStep hx r
  have two := one.recordStep (sent := sent) hx presenceStep_present fun q a v hq hw hr =>
    presenceStep_opens hr (hsent q a v hq hw)
  have same := recordStep_samePlace (s.presenceStep p r) p sent r
  have read : r ≠ .absent → (((s.presenceStep p r).recordStep p sent r).booth p).state ≠ .fault →
      (((s.presenceStep p r).recordStep p sent r).booth p).present = .yes := fun hr alive =>
    same.present.trans (presenceStep_present hr fun hf => alive (same.fault hf))
  unfold State.takeReply
  dsimp only
  refine State.Books.lockStep (State.Books.heldStep ?_ hx _ r) p _ r
  split
  · exact two
  next hs => exact two.wordStep hx read (fun hword => recordStep_free hword (by simpa using hs)) _

end Sys2Proof.Machine

namespace Sys2Proof.Machine

variable {x : Position → Terms} {t t' : Terms} {b b' : Booth} {c c' : Intercept} {s u : State} {p : Position} {m n : Nat}
  {w : Prop}

/-! ## The two invariants between commands -/

/-- The terms between commands: all holds, credit where `w`. -/
def Terms.base (w : Prop) (rule : RecordRule) : Terms :=
  { rule := rule, settled := w, resolved := True, alive := False, present := False, slack := 0 }

/-- In a frame the slot records are sound, and outside one there are none (R105). -/
def Port.rule (port : Port) : RecordRule := if port.inProgress then .sound else .gone

/-- The account of units, and credit evaluated where `w`, with every balance in its range. -/
structure State.Accounts (w : Prop) (s : State) : Prop where
  books : s.Books (fun _ => .base w s.port.rule) 0

theorem Terms.base_acting {rule : RecordRule} (h : rule ≠ .sound) : (Terms.base w rule).Acting :=
  ⟨h, trivial, rfl, id, id⟩

theorem Terms.Hold.base_of_sound {rule : RecordRule} (h : SoundAt b c) (hb : b.InRange) (hr : rule.ok b c)
    (hw : w → SettledAt b c) : (Terms.base w rule).Hold b c where
  noCard := h.noCard
  bounded := hb.known
  resolved _ := h.resolved
  fault := h.fault
  inFlight := h.inFlight
  held := h.held
  record := hr
  credit := hw
  alive := False.elim
  present := False.elim

theorem RecordRule.ok.sound_of_gone (h : c.record = none) : RecordRule.sound.ok b c :=
  fun _ hr => nomatch h.symm.trans hr

theorem accounts_of_accounted (h : s.Accounted) (hr : s.InRange) (hw : w → s.CreditSettled) : s.Accounts w where
  books := {
    each := fun q => .base_of_sound (h.sound q) (hr.counts.booths q) (by
      unfold Port.rule
      split
      · exact (h.sound q).record
      next hidle => exact h.idle (by simpa using hidle) q) fun hw' => creditSettled_iff.mp (hw hw') q
    distinct := h.distinct
    balance := h.balance.trans (Nat.add_zero _).symm }

theorem State.Accounts.accounted (h : s.Accounts w) : s.Accounted where
  sound q := by
    have hq := h.books.each q
    have record : ∀ r, (s.slot q).record = some r → r.sound (s.booth q) (s.slot q) := by
      have ok := hq.record
      simp only [Terms.base, Port.rule] at ok
      split at ok
      · exact ok
      · exact RecordRule.ok.sound_of_gone ok
    exact ⟨hq.noCard, hq.resolved trivial, hq.fault, hq.inFlight, hq.held, record⟩
  idle hidle q := by
    have ok := (h.books.each q).record
    simp only [Terms.base, Port.rule, hidle] at ok
    exact ok
  distinct := h.books.distinct
  balance := h.books.balance.trans (Nat.add_zero _)

theorem State.Accounts.creditSettled (h : s.Accounts w) (hw : w) : s.CreditSettled :=
  creditSettled_iff.mpr fun q => (h.books.each q).credit hw

/-- An operation that leaves the account alone on any terms, and neither begins nor ends a frame. -/
theorem State.Accounts.keep (h : s.Accounts w) (hop : ∀ x, s.Books x 0 → u.Books x 0)
    (hport : u.port.inProgress = s.port.inProgress := by rfl) : u.Accounts w where
  books := by
    have rule : u.port.rule = s.port.rule := by simp [Port.rule, hport]
    rw [rule]
    exact hop _ h.books

theorem State.Accounts.keepRest (h : s.Accounts w) (hop : ∀ x, s.Books x 0 → u.Books x 0) (hrest : SameRest s u) :
    u.Accounts w := by
  obtain ⟨-, -, hport⟩ := hrest
  exact h.keep hop (by rw [hport])

theorem State.Accounts.of_same (h : s.Accounts w) (booths : u.booths = s.booths := by rfl)
    (slots : u.slots = s.slots := by rfl) (arrears : u.arrears = s.arrears := by rfl)
    (ledger : u.ledger = s.ledger := by rfl) (hport : u.port.inProgress = s.port.inProgress := by rfl) : u.Accounts w :=
  h.keep (fun _ hs => hs.of_same booths slots arrears ledger) hport

theorem State.Accounts.ite {q : Prop} [Decidable q] (ht : q → u.Accounts w) (hs : ¬ q → s.Accounts w) :
    (if q then u else s).Accounts w := by
  split
  next hq => exact ht hq
  next hq => exact hs hq

theorem State.Accounts.live {f : State → State} (h : s.Accounts w) (hf : (f s).Accounts w) : (s.live f).Accounts w :=
  .ite (fun _ => h) fun _ => hf

/-- Within a frame the slot records are sound. -/
theorem State.Accounts.inFrame {f : State → State} (h : s.Accounts w)
    (hf : s.port.inProgress = true → (f s).Accounts w) : (s.inFrame f).Accounts w :=
  h.live (.ite (fun hin => hf hin) fun _ => h)

theorem State.Accounts.taking (h : s.Accounts w) (hin : s.port.inProgress = true) :
    s.Books (fun _ => .base w .sound) 0 := by
  have books := h.books
  rwa [Port.rule, if_pos hin] at books

theorem accounts_of_taking (h : s.Books (fun _ => .base w .sound) 0) (hin : s.port.inProgress = true) : s.Accounts w where
  books := by rwa [Port.rule, if_pos hin]

theorem accounts_of_idle (h : s.Books (fun _ => .base w .gone) 0) (hin : s.port.inProgress = false) : s.Accounts w where
  books := by
    rw [Port.rule, hin]
    exact h

/-- The slot record of a position is relied on no longer. -/
theorem State.Books.free (h : s.Books (fun _ => .base w .sound) n) (p : Position) :
    s.Books (termsAt (fun _ => .base w .sound) p (.base w .any)) n := h.agree { h.each p with record := trivial }

/-! ## Replies -/

/-- Step 6 clears the slot record (R105, R120). -/
theorem State.Books.answer (h : s.Books (termsAt (fun _ => .base w .sound) p (.base w .any)) n) (v : UpReply) :
    (s.answer p v).Books (fun _ => .base w .sound) n := by
  have hp := h.at
  have answered : (Terms.base w .sound).Hold (s.booth p) { s.slot p with record := none } := { hp with
    record := nofun
    credit := fun hw => (hp.credit hw).of_kept rfl }
  have written := h.setSlot answered (m := n) rfl
  rw [termsAt_termsAt, termsAt_eq_self (x := fun _ => Terms.base w .sound)] at written
  exact written.of_same

theorem State.Accounts.reply (h : s.Accounts w) (p : Position) (r : Reply) (bytes : SlotBytes) :
    (s.reply p r bytes).Accounts w := by
  refine h.inFrame fun hin => accounts_of_taking ?_ ?_
  · have taken := h.taking hin
    have reached : (s.reach (replyIn p)).Books (termsAt (fun _ => .base w .sound) p (.base w .any)) 0 :=
      (taken.free p).of_same
    refine State.Books.answer ?_ _
    refine reached.takeReply (by rw [termsAt_self]; exact Terms.base_acting nofun) r fun q a v hq hw => ?_
    exact ((taken.each p).record q hq).opens hw
  · obtain ⟨-, -, port⟩ := sameRest_takeReply (s.reach (replyIn p)) p ((s.reach (replyIn p)).slot p).record r
    rw [answer_frame]
    dsimp only
    rw [port]
    exact hin

/-! ## Requests -/

/-- A sound slot record is set in place of the last one (R105). -/
theorem State.Books.send {r : SlotRecord} (h : s.Books (termsAt (fun _ => .base w .sound) p (.base w .any)) n)
    (hr : r.sound (s.booth p) (s.slot p)) (bytes : SlotBytes) : (s.send p r bytes).Books (fun _ => .base w .sound) n := by
  have hp := h.at
  have sent : (Terms.base w .sound).Hold (s.booth p) { s.slot p with record := some r } := { hp with
    record := fun y hy => by
      obtain rfl := Option.some.inj hy
      exact hr
    credit := fun hw => (hp.credit hw).of_kept rfl }
  have written := h.setSlot sent (m := n) rfl
  rw [termsAt_termsAt, termsAt_eq_self (x := fun _ => Terms.base w .sound)] at written
  exact written.of_same

theorem SlotRecord.sound_of_no_write {r : SlotRecord} (h : ∀ a v, r.sent ≠ .write a v) (b : Booth) (c : Intercept) :
    r.sound b c := fun a v hv => absurd hv (h a v)

theorem State.Accounts.arrive {f : State → State} (h : s.Accounts w) (p : Position)
    (hf : (s.reach (requestIn p)).Books (fun _ => .base w .sound) 0 → (f (s.reach (requestIn p))).Books (fun _ => .base w .sound) 0)
    (hport : (f (s.reach (requestIn p))).port.inProgress = s.port.inProgress) : (s.arrive p f).Accounts w :=
  h.inFrame fun hin => accounts_of_taking (hf (h.taking hin).of_same) (hport.trans hin)

theorem State.Books.sendNull (h : s.Books (fun _ => .base w .sound) n) (p : Position) (y : Treatment) :
    (s.sendNull p y).Books (fun _ => .base w .sound) n :=
  (h.free p).send (SlotRecord.sound_of_no_write (by simp) _ _) _

theorem State.Books.sendRead (h : s.Books (fun _ => .base w .sound) n) (p : Position) (a : WordAddr) (rest : BitVec 32)
    (y : Treatment) : (s.sendRead p a rest y).Books (fun _ => .base w .sound) n :=
  (h.free p).send (SlotRecord.sound_of_no_write (by simp) _ _) _

theorem State.Books.kill (h : s.Books (fun _ => .base w .sound) n) (p : Position) (cause : RefuseCause) (v : Nat) :
    (s.kill p cause v).Books (fun _ => .base w .sound) n := (h.sendNull p _).place _

/-- A position where an own request may be inserted (R46). -/
structure State.Inserts (s : State) (p : Position) : Prop where
  alive : (s.booth p).state ≠ .fault
  present : (s.booth p).present = .yes
  free : (s.slot p).inFlight = none

theorem State.inserts_of_eligible (h : s.eligible p = true) : s.Inserts p := by
  simp only [State.eligible, decide_eq_true_eq] at h
  obtain ⟨-, alive, present, -, free, -⟩ := h
  exact ⟨alive, present, free⟩

/-- The value of a debit write lowers the known balance by no more than W (R51). -/
theorem need_write {v : Nat} (h : s.need p = some (.write v)) :
    ∃ k, (s.booth p).known = some k ∧ v < k ∧ k - v ≤ (s.booth p).owed := by
  unfold State.need at h
  dsimp only at h
  split at h
  · cases h
  · split at h
    · cases h
    · split at h
      · cases h
      next k hk =>
        split at h
        next hdue =>
          simp only [Option.some.injEq, OwnRequest.write.injEq] at h
          simp only [State.debitDue, decide_eq_true_eq] at hdue
          obtain ⟨howed, hpos, -⟩ := hdue
          refine ⟨k, hk, ?_, ?_⟩ <;>
            · unfold debitValue at h
              omega
        next => cases h

/-- An own request is sound in its slot once it is held soundly (R119). -/
theorem State.Books.insert {q : OwnRequest} (h : s.Books (fun _ => .base w .sound) n) (hi : s.Inserts p) (first : Bool)
    (hheld : first = false → (s.slot p).held.map Held.request = some q)
    (hq : ∀ v, q = .write v → ∃ k, (s.booth p).known = some k ∧ v < k ∧ k - v ≤ (s.booth p).owed) :
    (s.insert p q first).Books (fun _ => .base w .sound) n := by
  have sound : ∀ c : Intercept, c.inFlight = none → c.held.map Held.request = some q →
      ({ origin := .own, sent := q.sent, treatment := .inserted first } : SlotRecord).sound (s.booth p) c := by
    intro c hc hreq a v hv
    cases q with
    | read => exact nomatch hv
    | write v' =>
      obtain ⟨rfl, rfl⟩ := ReaderRequest.write.inj hv
      obtain ⟨k, hk, hlt, -⟩ := hq _ rfl
      exact ⟨hc, fun _ => ⟨rfl, hreq⟩, fun _ => hi.alive, fun _ _ => ⟨k, hk, hlt.le⟩⟩
  have freed := h.free p
  unfold State.insert
  cases first with
  | false => exact freed.send (sound _ hi.free (hheld rfl)) _
  | true =>
    have hp := freed.at
    have held : (Terms.base w .any).Hold (s.booth p) { s.slot p with held := some { request := q, tries := 0 } } := { hp with
      noCard := fun hn => absurd hi.present hn
      fault := fun hf => absurd hf hi.alive
      held := fun y hy v hv => by
        obtain rfl := Option.some.inj hy
        obtain ⟨k, hk, hlt, hle⟩ := hq v hv
        exact ⟨k, hk, hlt, hle.trans (Nat.le_add_right ..)⟩
      record := trivial
      credit := fun hw => (hp.credit hw).of_kept rfl }
    have written := freed.setSlot held (m := n) rfl
    rw [termsAt_termsAt] at written
    refine written.send ?_ _
    rw [State.slot_setSlot_self]
    exact sound _ hi.free rfl

theorem State.Books.decideNull (h : s.Books (fun _ => .base w .sound) n) (p : Position) :
    (s.decideNull p).Books (fun _ => .base w .sound) n := by
  refine .ite (fun helig => ?_) fun _ => h.sendNull ..
  have hi := State.inserts_of_eligible helig
  split
  next y hy =>
    refine h.insert hi false (fun _ => by simp [hy]) fun v hv => ?_
    have sound := (h.each p).held y hy v hv
    rwa [show (s.slot p).k = 0 by simp [Intercept.k, hi.free]] at sound
  next =>
    split
    next q hq => exact h.insert hi true nofun fun v hv => need_write (hv ▸ hq)
    next => exact h.sendNull ..

/-- What a passed write rests on (R108 to R110). -/
structure State.PassesSoundly (s : State) (p : Position) (a : WordAddr) (v : Nat) (y : Treatment) : Prop where
  alive : a = 4 → (s.booth p).state ≠ .fault
  covered : a = 4 → y ≠ .converted → ∃ k, (s.booth p).known = some k ∧ v ≤ k

theorem State.Books.passWrite {a : WordAddr} {v c : Word} {y : Treatment} (h : s.Books (fun _ => .base w .sound) n)
    (hfree : (s.slot p).inFlight = none) (hp : s.PassesSoundly p a v.toNat y) :
    (s.passWrite p a v c y).Books (fun _ => .base w .sound) n := by
  have sound : ∀ b : Booth, b.state = (s.booth p).state → b.known = (s.booth p).known →
      ({ origin := .row, sent := .write a v.toNat, treatment := y } : SlotRecord).sound b (s.slot p) := by
    intro b hstate hknown a' v' hv
    obtain ⟨rfl, rfl⟩ := ReaderRequest.write.inj hv
    exact ⟨hfree, nofun, hstate ▸ hp.alive, hknown ▸ hp.covered⟩
  unfold State.passWrite
  dsimp only
  split
  · refine State.Books.send ((h.free p).onSame (p := p)) ?_ _
    rw [State.booth_setBooth_self]
    exact sound _ rfl rfl
  · exact (h.free p).send (sound _ rfl rfl) _

theorem State.Books.vetted {check : Option RefuseCause} {a : WordAddr} {v c : Word} {y : Treatment}
    (h : s.Books (fun _ => .base w .sound) n) (hp : check = none → s.PassesSoundly p a v.toNat y) :
    (s.vetted p check a v c y).Books (fun _ => .base w .sound) n := by
  refine .ite (fun _ => h.sendNull ..) fun hfree => ?_
  split
  · exact h.kill ..
  · exact h.passWrite (by simpa using hfree) (hp rfl)

theorem State.Books.passesWrite {v : Nat} {a : WordAddr} (h : s.Books x n) (hcheck : s.vetWrite p a v = none) :
    s.PassesSoundly p a v .passed := by
  have covered : a = 4 → ∃ k, (s.booth p).known = some k ∧ v ≤ k := by
    rintro rfl
    exact le_known_of_vetWrite hcheck
  refine ⟨fun ha hf => ?_, fun ha _ => covered ha⟩
  obtain ⟨k, hk, -⟩ := covered ha
  obtain ⟨-, -, known, -⟩ := (h.each p).fault hf
  exact nomatch known.symm.trans hk

theorem passesProtected {v z : Nat} {a : WordAddr} (hcheck : s.vetProtected p a v z = none) :
    s.PassesSoundly p a v .converted := by
  refine ⟨?_, fun _ hne => absurd rfl hne⟩
  rintro rfl
  exact (vetProtected_balance hcheck).2.1

end Sys2Proof.Machine

namespace Sys2Proof.Machine

variable {x : Position → Terms} {t t' : Terms} {b b' : Booth} {c c' : Intercept} {s u : State} {p : Position} {m n : Nat}
  {w : Prop}

/-! ## Frames (R93, R94, R125, R142 to R149) -/

/-- A pass over every position whose turn leaves a position with no slot record leaves none at all. -/
theorem State.Books.forAllGone {f : Position → State → State} (h : s.Books (fun _ => .base w .sound) n)
    (hf : ∀ (x : Position → Terms) p s, x p = .base w .sound → s.Books x n → (f p s).Books (termsAt x p (.base w .gone)) n) :
    (s.forAll f).Books (fun _ => .base w .gone) n := by
  have left : ∀ (l : List Position) (s : State), l.Nodup →
      s.Books (fun q => .base w (if q ∈ l then .sound else .gone)) n →
      (l.foldl (fun s p => f p s) s).Books (fun _ => .base w .gone) n := by
    intro l
    induction l with
    | nil => exact fun s _ hs => by simpa using hs
    | cons p l ih =>
      intro s hl hs
      rw [List.nodup_cons] at hl
      refine ih _ hl.2 ?_
      have turned := hf _ p s (by simp) hs
      have terms : termsAt (fun q => Terms.base w (if q ∈ p :: l then .sound else .gone)) p (.base w .gone) =
          fun q => .base w (if q ∈ l then .sound else .gone) := by
        funext q
        by_cases hq : q = p
        · subst hq
          simp [hl.1]
        · simp [hq]
      rwa [terms] at turned
  exact left positions s positions_nodup (by simpa using h)

theorem State.Books.cutSlot (h : s.Books x n) (hx : x p = .base w .sound) (cut : Nat) :
    (s.cutSlot cut p).Books (termsAt x p (.base w .gone)) n := by
  have hp := h.each p
  rw [hx] at hp
  unfold State.cutSlot
  split
  next hnone => exact h.agree { hp with record := hnone }
  next r hr =>
    have gone : (Terms.base w .gone).Hold (s.booth p) { s.slot p with record := none } := { hp with
      record := rfl
      credit := fun hw => (hp.credit hw).of_kept rfl }
    have cleared := h.setSlot gone (m := n) rfl
    have acting : (termsAt x p (Terms.base w .gone) p).Acting := by
      rw [termsAt_self]
      exact Terms.base_acting nofun
    dsimp only
    split
    · split
      next a v hw =>
        obtain ⟨free, own, alive⟩ := (hp.record r hr).opens hw
        refine cleared.openRecord acting.rule acting.slack ?_
        rw [State.slot_setSlot_self]
        exact ⟨free, own, alive⟩
      all_goals exact cleared
    · exact .ite (fun _ => cleared.noHeld acting.rule) fun _ => cleared

theorem State.Books.setPort (h : s.Books x n) (port : Port) : { s with port := port }.Books x n := h.of_same

theorem State.Books.setHighway (h : s.Books x n) (port : Port) (sup : Supervisor) :
    { s with port := port, sup := sup }.Books x n := h.of_same

/-- A frame in progress is cut, and no slot record is left (R93, R94). -/
theorem State.Accounts.cutFrame (h : s.Accounts w) (cut : Nat) :
    (s.cutFrame cut).Books (fun _ => .base w .gone) 0 ∧ (s.cutFrame cut).port.inProgress = false := by
  unfold State.cutFrame
  split
  next hin =>
    refine ⟨?_, rfl⟩
    exact State.Books.setPort ((h.taking hin).forAllGone (f := fun p u => u.cutSlot (max cut s.port.byteTime) p)
      fun x p u hx hu => hu.cutSlot hx _) _
  next hin =>
    have idle : s.port.inProgress = false := by simpa using hin
    have books := h.books
    rw [Port.rule, idle] at books
    exact ⟨books, idle⟩

/-- Where no slot record is left, all that are left are sound. -/
theorem State.Books.soundOfGone (h : s.Books (fun _ => .base w .gone) n) : s.Books (fun _ => .base w .sound) n where
  each q := { h.each q with record := RecordRule.ok.sound_of_gone (h.each q).record }
  distinct := h.distinct
  balance := h.balance

theorem State.Accounts.frameStart (h : s.Accounts w) (cut : Nat) : ((s.cutFrame cut).beginFrame).Accounts w :=
  accounts_of_taking (h.cutFrame cut).1.soundOfGone.of_same rfl

/-- The contexts of a position that loses the highway (R144): its pair becomes the pending resolution. -/
def lostPair (b : Booth) (c : Intercept) : Option Pair :=
  match c.inFlight with
  | some r => if r.word = 4 ∧ 0 < r.k then r.pair else b.pendingRes
  | none => b.pendingRes

theorem loseRecord_eq (s : State) (p : Position) : s.loseRecord p =
    (s.setBooth p { s.booth p with pendingRes := lostPair (s.booth p) (s.slot p) }).setSlot p
      { s.slot p with inFlight := none } := by
  unfold State.loseRecord
  split
  next hc =>
    have slot : { s.slot p with inFlight := none } = s.slot p := by rw [← hc]
    have pair : lostPair (s.booth p) (s.slot p) = (s.booth p).pendingRes := by rw [lostPair, hc]
    rw [slot, pair]
    exact ((State.setSlot_slot (s.setBooth p (s.booth p)) p).trans (State.setBooth_booth s p)).symm
  next r hc =>
    dsimp only
    split
    next hr =>
      have pair : lostPair (s.booth p) (s.slot p) = r.pair := by simp only [lostPair, hc, if_pos hr]
      rw [pair]
      rfl
    next hr =>
      have pair : lostPair (s.booth p) (s.slot p) = (s.booth p).pendingRes := by simp only [lostPair, hc, if_neg hr]
      rw [pair]
      exact congrArg (State.setSlot · p { s.slot p with inFlight := none }) (State.setBooth_booth s p).symm

theorem losePosition_eq (s : State) (p : Position) : s.losePosition p =
    (s.setBooth p { s.booth p with pendingRes := lostPair (s.booth p) (s.slot p) }.loseCard).setSlot p
      { s.slot p with inFlight := none, held := none, lock := 0 } := by
  unfold State.losePosition
  rw [loseRecord_eq]
  simp

/-- The units in flight stay at the position, in its pending resolution (R66, R144). -/
theorem units_lost (h : t.Hold b c) (hr : t.resolved) : pairK (lostPair b c) = pairK b.pendingRes + c.k := by
  unfold lostPair Intercept.k
  cases hc : c.inFlight with
  | none => rfl
  | some r =>
    have sound := h.inFlight r hc
    by_cases hcov : r.word = 4 ∧ 0 < r.k
    · obtain ⟨k, hprior, -, -⟩ := sound.2 hcov.2
      have res := h.resolved hr (by simp [(sound.1 k hprior).1])
      simp [hcov, res, InFlight.pair, pairK]
    · have k0 : r.k = 0 := by
        by_cases hw : r.word = 4
        · exact Nat.eq_zero_of_not_pos fun hpos => hcov ⟨hw, hpos⟩
        · exact sound.k_eq_zero hw
      simp [k0]

theorem State.Books.losePosition (h : s.Books x n) (hx : (x p).Acting) : (s.losePosition p).Books x n := by
  have hp := h.each p
  rw [losePosition_eq]
  have res : (s.booth p).known = none → lostPair (s.booth p) (s.slot p) = (s.booth p).pendingRes := by
    intro hk
    have k0 := hp.k_eq_zero hk
    unfold lostPair
    cases hc : (s.slot p).inFlight with
    | none => rfl
    | some r => simp [show r.k = 0 by simpa [Intercept.k, hc] using k0]
  have lost : (x p).Hold { s.booth p with pendingRes := lostPair (s.booth p) (s.slot p) }.loseCard
      { s.slot p with inFlight := none, held := none, lock := 0 } := by
    unfold Booth.loseCard
    split
    next hyes => exact {
      noCard := fun hn => absurd hyes hn
      bounded := forall_none
      resolved := fun _ hne => absurd rfl hne
      fault := fun hf => by
        obtain ⟨-, -, known, pending, -, -⟩ := hp.fault hf
        exact ⟨rfl, rfl, rfl, (res known).trans pending, rfl, forall_none⟩
      inFlight := forall_none
      held := forall_none
      record := hp.record.of_ne_sound hx.rule
      credit := fun _ => .of_unknown rfl
      alive := fun ha => absurd ha hx.alive
      present := fun ha => absurd ha hx.present }
    next hno =>
      obtain ⟨known, pending, -, -⟩ := hp.noCard hno
      have none_left : lostPair (s.booth p) (s.slot p) = none := (res known).trans pending
      exact {
        noCard := fun _ => ⟨known, none_left, rfl, rfl⟩
        bounded := hp.bounded
        resolved := fun _ _ => none_left
        fault := fun hf => by
          obtain ⟨high, low, -, -, -, -⟩ := hp.fault hf
          exact ⟨high, low, known, none_left, rfl, forall_none⟩
        inFlight := forall_none
        held := forall_none
        record := hp.record.of_ne_sound hx.rule
        credit := fun _ => .of_unknown known
        alive := fun ha => absurd ha hx.alive
        present := fun ha => absurd ha hx.present }
  have units := units_lost hp hx.resolved
  have same : ∀ b : Booth, b.loseCard.owed = b.owed ∧ b.loseCard.pendingRes = b.pendingRes := by
    intro b
    unfold Booth.loseCard
    split <;> exact ⟨rfl, rfl⟩
  obtain ⟨owed, pending⟩ := same { s.booth p with pendingRes := lostPair (s.booth p) (s.slot p) }
  have none_left : Intercept.k { s.slot p with inFlight := none, held := none, lock := 0 } = 0 := rfl
  have written := h.write (p := p) lost (m := n) (by
    rw [unitsAt, unitsAt, owed, pending, none_left]
    dsimp only
    omega)
  rwa [termsAt_eq_self] at written

theorem State.Accounts.enterLost (h : s.Accounts w) (cut : Nat) : (s.enterLost cut).Accounts w := by
  have lost := (h.cutFrame cut).1.forAll (f := State.losePosition) fun p s hs => hs.losePosition (Terms.base_acting nofun)
  refine accounts_of_idle ((lost.place (.ofRow .highwayLost 0 0)).setHighway _ _) ?_
  have port : (s.enterLost cut).port = s.port.lose := rfl
  rw [port]
  unfold Port.lose
  split
  · rfl
  next hin => simpa using hin

theorem State.Accounts.expireFrameTimer (h : s.Accounts w) (cut : Nat) : (s.expireFrameTimer cut).Accounts w := by
  have held : { s with sup := { s.sup with frameTimer := some Config.frameTimeoutPeriods } }.Accounts w := h.of_same
  exact .ite (fun _ => held.enterLost cut) fun _ => held

theorem State.Accounts.enterLongLost (h : s.Accounts w) : s.enterLongLost.Accounts w := by
  have moved : { s with sup := { s.sup with highway := .longLost, lossTimer := none } }.Accounts w := h.of_same
  refine moved.keepRest (fun x hs => hs.forAll fun p u hu => .ite (fun _ => hu.enterClearing ..) fun _ => hu) ?_
  refine sameRest_forAll (fun p u => ?_) _
  split
  · exact (localAt_enterClearing ..).rest
  · exact SameRest.refl u

theorem State.Books.lowerLock (h : s.Books x n) (p : Position) : (s.lowerLock p).Books x n := by
  refine .ite (fun _ => h) fun _ => ?_
  have lowered : ∀ k, (s.setSlot p { s.slot p with lock := k }).Books x n := fun k => h.onSlotSame
  exact .ite (fun _ => (lowered _).place _) fun _ => lowered _

theorem State.Books.countFrame (h : s.Books x n) (hx : x p = .base w .sound) :
    (s.countFrame p).Books (termsAt x p (.base w .gone)) n := by
  have hp := h.each p
  rw [hx] at hp
  have hk : ∀ held, Intercept.k { s.slot p with
      inFlight := (s.slot p).inFlight.map fun r => { r with frames := min Config.writeTimeoutFrames (r.frames + 1) },
      held := held, record := none } = (s.slot p).k := by
    intro held
    simp only [Intercept.k]
    cases (s.slot p).inFlight <;> rfl
  have counted : (Terms.base w .gone).Hold (s.booth p) { s.slot p with
      inFlight := (s.slot p).inFlight.map fun r => { r with frames := min Config.writeTimeoutFrames (r.frames + 1) },
      record := none } := { hp with
    noCard := by rw [hk]; exact hp.noCard
    fault := fun hf => by
      obtain ⟨high, low, known, res, held, word⟩ := hp.fault hf
      refine ⟨high, low, known, res, held, fun r hr => ?_⟩
      obtain ⟨y, hy, rfl⟩ := Option.map_eq_some_iff.mp hr
      exact word y hy
    inFlight := fun r hr => by
      obtain ⟨y, hy, rfl⟩ := Option.map_eq_some_iff.mp hr
      exact hp.inFlight y hy
    held := by rw [hk]; exact hp.held
    record := rfl
    credit := fun hw => (hp.credit hw).of_kept (hk _) }
  exact h.setSlot counted (m := n) (by rw [unitsAt, hk]; rfl)

theorem State.Books.timeOut (h : s.Books x n) (hx : (x p).Acting) : (s.timeOut p).Books x n :=
  .ite (fun _ => h.declareFault hx) fun _ => h

theorem State.Accounts.completeFrame (h : s.Accounts w) : s.completeFrame.Accounts w := by
  unfold State.completeFrame
  split
  · exact h
  · have moved : { s with sup := { s.sup with highway := .running } }.Accounts w := h.of_same
    exact .ite (fun _ => moved.enterLost 0) fun _ => moved
  all_goals
    have placed := h.keepRest (fun x hs => hs.place (.ofRow .highwayRestored 0 s.sup.lossDuration)) (sameRest_place ..)
    have moved : ∀ sup, State.Accounts w { s.place (.ofRow .highwayRestored 0 s.sup.lossDuration) with sup := sup } :=
      fun _ => placed.of_same
    exact .ite (fun _ => (moved _).enterLost 0) fun _ => moved _

theorem State.Accounts.frameEnd (h : s.Accounts w) (trailer : TenBytes) :
    ∃ t, execFrameEnd trailer s = .next t ∧ t.Accounts w := by
  refine ⟨_, rfl, h.inFrame fun hin => State.Accounts.completeFrame ?_⟩
  have ended : State.Books (fun _ => .base w .sound) 0 { s.reach 152 with
      port := { (s.reach 152).port with inProgress := false, downTrailer := some trailer } } := (h.taking hin).of_same
  generalize hu : ({ s.reach 152 with
      port := { (s.reach 152).port with inProgress := false, downTrailer := some trailer } } : State) = u at ended
  have idle : u.port.inProgress = false := by rw [← hu]
  have counted := (ended.forAll (f := State.lowerLock) fun p s hs => hs.lowerLock p).forAllGone (f := State.countFrame)
    fun x p s hx hs => hs.countFrame hx
  refine accounts_of_idle (counted.forAll fun p s hs => hs.timeOut (Terms.base_acting nofun)) ?_
  have rest : SameRest u (((u.forAll State.lowerLock).forAll State.countFrame).forAll State.timeOut) := by
    refine ((sameRest_forAll sameRest_lowerLock _).trans (sameRest_forAll (fun p s => sameRest_onSlot ..) _)).trans
      (sameRest_forAll (fun p s => ?_) _)
    unfold State.timeOut
    split
    · exact sameRest_declareFault ..
    · exact SameRest.refl s
  obtain ⟨-, -, port⟩ := rest
  rw [port, idle]

/-- A write that times out is in flight, so that its slot has sent no other (R107, R149). -/
theorem State.Accounts.declareFault (h : s.Accounts w) {r : InFlight} (hr : (s.slot p).inFlight = some r) :
    (s.declareFault p).Accounts w := by
  obtain ⟨-, -, port⟩ := sameRest_declareFault s p
  cases hin : s.port.inProgress with
  | false =>
    have books := h.books
    rw [Port.rule, hin] at books
    exact accounts_of_idle (books.declareFault (Terms.base_acting nofun)) (by rw [port, hin])
  | true =>
    have books := h.taking hin
    have hp := books.each p
    have noWrite : (Terms.base w .noWrite).Hold (s.booth p) (s.slot p) := { hp with
      record := fun y hy a v hv => by
        obtain ⟨free, -⟩ := hp.record y hy a v hv
        exact nomatch free.symm.trans hr }
    have faulted := (books.agree noWrite).declareFault (by rw [termsAt_self]; exact Terms.base_acting nofun)
    refine accounts_of_taking (faulted.restore { faulted.at with record := ?_ }) (by rw [port, hin])
    exact fun y hy => SlotRecord.sound_of_no_write (faulted.at.record y hy) _ _

theorem State.Accounts.headerArrival (h : s.Accounts w) (frame : Byte) (minute : Word) (flags : Byte) (table : TableBytes) :
    ∃ t, execHeaderArrival frame minute flags table s = .next t ∧ t.Accounts w := by
  refine ⟨_, rfl, h.inFrame fun _ => ?_⟩
  have numbered : State.Accounts w { s.reach 10 with
      port := { (s.reach 10).port with
        frameNumber := some frame, upHeader := some frame, downHeader := some (headerBytes frame minute flags table) } } :=
    h.of_same
  have minuted : ∀ u : State, u.Accounts w → (u.takeMinute minute).Accounts w := fun u hu =>
    .ite (fun _ => hu.of_same) fun _ => hu
  have restarted : ∀ u : State, u.Accounts w → u.restartReports.Accounts w := by
    intro u hu
    refine hu.keep (fun x hs => hs.restartReports) ?_
    obtain ⟨-, -, port⟩ := sameRest_forAll (fun p s => sameRest_onSlot s p fun c => { c with lock := 0 })
      { u with reports := [], lost := 0, port := { u.port with recordHeld := false } }
    unfold State.restartReports
    rw [port]
  have tabled : ∀ u : State, u.Accounts w → (u.takeTableWord table).Accounts w := by
    intro u hu
    refine hu.keep (fun x hs => hs.takeTableWord table) ?_
    unfold State.takeTableWord State.takeTariff State.takeSchedule State.takePosition
    split
    · split <;> rfl
    · split <;> rfl
    · rfl
    · split <;> rfl
    · rfl
  exact .ite (fun _ => tabled _ (.ite (fun _ => restarted _ (minuted _ numbered)) fun _ => minuted _ numbered)) fun _ =>
    .ite (fun _ => restarted _ (minuted _ numbered)) fun _ => minuted _ numbered

end Sys2Proof.Machine

namespace Sys2Proof.Machine

variable {x : Position → Terms} {t t' : Terms} {b b' : Booth} {c c' : Intercept} {s u : State} {p : Position} {m n : Nat}
  {w : Prop}

/-! ## Resets (R23, R77, R179) -/

/-- A list that names no serial twice, whose entries and the units dropped so far make `n` units (R66, R77). -/
structure WarmSum.Sums (n : Nat) (y : WarmSum) : Prop where
  distinct : (y.arrears.map ArrearsEntry.serial).Nodup
  units : (y.arrears.map ArrearsEntry.units).sum + y.dropped = n

/-- The units of a position enter the list or are dropped at a warm reset (R23, R77). -/
theorem warmBooth_sums {y : WarmSum} (h : y.Sums n) (hp : t.Hold b c) (hr : t.resolved) (p : Position) :
    (warmBooth b c p y).Sums (n + unitsAt b c) := by
  rw [← hp.units_out hr]
  have units := h.units
  unfold warmBooth
  dsimp only
  split
  next hnone => exact ⟨h.distinct, by rw [hnone.1, hnone.2, pairK]; exact units⟩
  next =>
    split
    · exact ⟨h.distinct, by dsimp only; omega⟩
    next serial _ =>
      have opened := units_openEntry h.distinct p serial b.owed (outPair c b)
      exact ⟨openEntry_distinct h.distinct .., by dsimp only; omega⟩

theorem warmSum_sums (h : s.Books x 0) (hx : ∀ q, (x q).resolved) : s.warmSum.Sums s.unitsHeld := by
  have moved : ∀ (l : List Position) (y : WarmSum) (k : Nat), y.Sums k →
      (l.foldl (fun y p => warmBooth (s.booth p) (s.slot p) p y) y).Sums
        (k + (l.map fun p => unitsAt (s.booth p) (s.slot p)).sum) := by
    intro l
    induction l with
    | nil => exact fun y k hy => hy
    | cons p l ih =>
      intro y k hy
      have rest := ih _ _ (warmBooth_sums hy (h.each p) (hx p) p)
      rwa [Nat.add_assoc, ← List.sum_cons, ← List.map_cons (f := fun p => unitsAt (s.booth p) (s.slot p))] at rest
  have start : WarmSum.Sums (s.arrears.map ArrearsEntry.units).sum { arrears := s.arrears, dropped := 0, opened := [] } :=
    ⟨h.distinct, rfl⟩
  have all := moved positions _ _ start
  rwa [Nat.add_comm] at all

/-- Contexts that stand for no unit and no write. -/
structure AtRest (b : Booth) (c : Intercept) : Prop where
  known : b.known = none
  pendingRes : b.pendingRes = none
  owed : b.owed = 0
  state : b.state = .vacant
  slot : c = Intercept.powerOn

theorem AtRest.hold (h : AtRest b c) : (Terms.base w .gone).Hold b c := by
  obtain ⟨known, res, -, state, rfl⟩ := h
  exact {
    noCard := fun _ => ⟨known, res, rfl, rfl⟩
    bounded := fun k hk => nomatch known.symm.trans hk
    resolved := fun _ _ => res
    fault := fun hf => nomatch state.symm.trans hf
    inFlight := forall_none
    held := forall_none
    record := rfl
    credit := fun _ => .of_unknown known
    alive := False.elim
    present := False.elim }

theorem AtRest.units (h : AtRest b c) : unitsAt b c = 0 := by
  obtain ⟨-, res, owed, -, rfl⟩ := h
  rw [unitsAt, owed, res]
  rfl

/-- With every position at rest, only the list holds units. -/
theorem unitsHeld_atRest (h : ∀ q, AtRest (s.booth q) (s.slot q)) :
    s.unitsHeld = (s.arrears.map ArrearsEntry.units).sum := by
  have none_held : (positions.map fun q => unitsAt (s.booth q) (s.slot q)) = positions.map fun _ => 0 :=
    List.map_congr_left fun q _ => (h q).units
  unfold State.unitsHeld
  rw [none_held, List.map_const', List.sum_replicate, smul_zero, Nat.zero_add]

theorem warm_atRest (s : State) (q : Position) : AtRest (s.warm.booth q) (s.warm.slot q) := by
  rw [warm_booth, slot_warm]
  exact ⟨rfl, rfl, rfl, rfl, rfl⟩

theorem powerOn_atRest (q : Position) : AtRest (State.powerOn.booth q) (State.powerOn.slot q) := by
  rw [booth_powerOn, slot_powerOn]
  exact ⟨rfl, rfl, rfl, rfl, rfl⟩

theorem ledger_warm (s : State) : s.warm.ledger = { s.warmBooths.ledger with
    dropped := s.warmBooths.ledger.dropped + s.warmSum.dropped } := rfl

theorem ledger_warmBooths (s : State) : s.warmBooths.ledger = s.ledger := by
  have kept : ∀ p (t : State), t.ledger = s.ledger → (t.onBooth p Booth.warm).ledger = s.ledger := fun _ _ ht => ht
  have all := forAll_induct (f := fun p t => t.onBooth p Booth.warm) kept s rfl
  rwa [← State.warmBooths] at all

theorem State.Accounts.warm (h : s.Accounts w) : s.warm.Accounts w := by
  have sums := warmSum_sums h.books fun _ => trivial
  have held := unitsHeld_atRest (warm_atRest s)
  have list : s.warm.arrears = s.warmSum.arrears := rfl
  refine accounts_of_idle ⟨fun q => (warm_atRest s q).hold, list ▸ sums.distinct, ?_⟩ rfl
  have units := sums.units
  have balance := h.books.balance
  rw [held, list, ledger_warm, ledger_warmBooths]
  dsimp only
  omega

theorem powerOn_accounts : State.powerOn.Accounts w := by
  refine accounts_of_idle ⟨fun q => (powerOn_atRest q).hold, List.nodup_nil, ?_⟩ rfl
  rw [unitsHeld_atRest powerOn_atRest]
  rfl

theorem State.Accounts.draw (h : s.Accounts w) (k : Nat) : { s with draws := k }.Accounts w := h.of_same

theorem State.Accounts.warmReset (h : s.Accounts w) (periods : Nat) :
    ∃ t, execWarmReset periods s = .next t ∧ t.Accounts w := by
  have lowered : (s.lowerLine periods).Accounts w := .ite (fun _ => h) fun _ => h.of_same
  have pulsed : (s.resetPulse periods).Accounts w :=
    .ite (fun _ => h) fun _ => .ite (fun _ => h.warm) fun _ => .ite (fun _ => (h.draw _).warm) fun _ => h.draw _
  exact ⟨_, rfl, .ite (fun _ => lowered) fun _ => pulsed⟩

theorem State.Accounts.release (h : s.Accounts w) (strap : Bool) : (s.release strap).Accounts w := h.of_same

theorem State.Accounts.resetRelease (h : s.Accounts w) (strap : Bool) :
    ∃ t, execResetRelease strap s = .next t ∧ t.Accounts w := by
  have high : { s with lineLow := false }.Accounts w := h.of_same
  exact ⟨_, rfl, .ite (fun _ => .ite (fun _ => high) fun _ => high.release strap) fun _ => h⟩

theorem State.Accounts.holdPeriod (h : s.Accounts w) : s.holdPeriod.Accounts w := by
  unfold State.holdPeriod
  split
  · exact h
  next k _ =>
    have held : { s with powerUp := some (min Config.powerUpPeriods (k + 1)) }.Accounts w := h.of_same
    exact .ite (fun _ => held) fun _ => (held.draw _).release _

/-! ## The clock (R24, R129, R142, R146) -/

/-- A tick leaves the port alone. -/
theorem port_tick (s : State) : s.tick.port = s.port := by
  have expired : ∀ (l : List ArrearsEntry) (u : State), (l.foldl (fun s e => s.expire e) u).port = u.port := by
    intro l
    induction l with
    | nil => exact fun _ => rfl
    | cons e l ih =>
      intro u
      obtain ⟨-, -, port⟩ := sameRest_expire u e
      exact (ih _).trans port
  have aged : ∀ u : State, u.ageEntries.port = u.port := fun u => expired _ _
  have ticked : ∀ k, (State.forAll { s with divider := 0, tickCount := k, sup := s.sup.tick } State.tickBooth).port = s.port := by
    intro k
    obtain ⟨-, -, port⟩ := sameRest_forAll (fun p u => (localAt_tickBooth p u).rest)
      { s with divider := 0, tickCount := k, sup := s.sup.tick }
    exact port
  have flashed : ∀ u : State, u.toggleFlash.port = u.port := fun _ => rfl
  unfold State.tick
  dsimp only
  split <;> split <;> simp only [aged, flashed, ticked]

theorem State.Accounts.tick (h : s.Accounts w) : s.tick.Accounts w :=
  h.keep (fun _ hs => hs.tick) (by rw [port_tick])

theorem State.Accounts.ageEntries (h : s.Accounts w) : s.ageEntries.Accounts w := by
  refine h.keep (fun _ hs => hs.ageEntries) (congrArg Port.inProgress ?_)
  exact List.foldlRecOn (motive := fun u => State.port u = s.port) _ _ rfl fun u hu e _ => (by
    obtain ⟨-, -, port⟩ := sameRest_expire u e
    exact port.trans hu)

/-- The samples of a column leave the port alone (R130 to R134). -/
theorem port_sampleColumn (s : State) (rows : RowInputs) : (s.sampleColumn rows).port = s.port :=
  List.foldlRecOn (motive := fun u => State.port u = s.port) _ _ rfl fun u hu p _ => by
    obtain ⟨-, -, loop⟩ := sampleLoop_rest u p ((rowsRead rows).getLsbD (evenRow p))
    obtain ⟨-, -, answer⟩ := sampleAnswer_rest (u.sampleLoop p ((rowsRead rows).getLsbD (evenRow p))) p
      ((rowsRead rows).getLsbD (oddRow p))
    exact (answer.trans loop).trans hu

theorem port_takeSample (s : State) : s.takeSample.port = s.port := by
  unfold State.takeSample
  split
  · rfl
  · exact port_sampleColumn { s with draws := s.draws + 1 }
      { driven := Config.rowsDriven s.draws, level := Config.lineLevels s.draws }

theorem State.Accounts.takeSample (h : s.Accounts w) : s.takeSample.Accounts w :=
  h.keep (fun _ hs => hs.takeSample) (by rw [port_takeSample])

theorem State.Accounts.startDrive (h : s.Accounts w) : s.startDrive.Accounts w := h.of_same

theorem State.Accounts.startStep (h : s.Accounts w) (column : Fin 6) : (s.startStep column).Accounts w := h.of_same

theorem State.Accounts.endSegment (h : s.Accounts w) : s.endSegment.Accounts w := by
  unfold State.endSegment
  split
  · exact h
  · exact h.takeSample.startDrive
  · exact h.startStep _

theorem State.Accounts.happen (h : s.Accounts w) (d : Due) : (s.happen d).Accounts w := by
  cases d with
  | frameTimer => exact h.expireFrameTimer 0
  | lossTimer => exact .ite (fun _ => h.enterLongLost) fun _ => h
  | tick => exact h.tick
  | segment => exact h.endSegment

theorem State.Accounts.clockPeriod (h : s.Accounts w) : s.clockPeriod.Accounts w := by
  refine .ite (fun _ => h.holdPeriod) fun _ => ?_
  have left : s.leaveSense.Accounts w := .ite (fun _ => h.startDrive) fun _ => h
  have counted : ∀ k, State.Accounts w { s.leaveSense.countPeriod with draws := k } := fun _ => left.of_same
  exact List.foldlRecOn _ _ (counted _) fun u hu d _ => hu.happen d

/-! ## Every command -/

theorem inProgress_decideNull (s : State) (p : Position) : (s.decideNull p).port.inProgress = s.port.inProgress := by
  have inserted : ∀ q first, (s.insert p q first).port.inProgress = s.port.inProgress := by
    intro q first
    unfold State.insert
    cases first <;> rfl
  unfold State.decideNull
  split
  · split
    · exact inserted ..
    · split
      · exact inserted ..
      · rfl
  · rfl

theorem inProgress_kill (s : State) (p : Position) (cause : RefuseCause) (v : Nat) :
    (s.kill p cause v).port.inProgress = s.port.inProgress := by
  rw [State.kill, State.place_port]
  rfl

theorem inProgress_vetted (s : State) (p : Position) (check : Option RefuseCause) (a : WordAddr) (v c : Word)
    (y : Treatment) : (s.vetted p check a v c y).port.inProgress = s.port.inProgress := by
  unfold State.vetted State.passWrite
  split
  · rfl
  · split
    · exact inProgress_kill ..
    · dsimp only
      split <;> rfl

theorem State.Accounts.trailer (h : s.Accounts w) (sent k : Nat) :
    ((((s.reach k).beginTrailer).giveUpRecord sent).emitTrailer sent).Accounts w := by
  have begun : ∀ u : State, u.Accounts w → u.beginTrailer.Accounts w := by
    intro u hu
    unfold State.beginTrailer
    split
    · exact hu
    · exact hu.of_same
  have given : ∀ u : State, u.Accounts w → (u.giveUpRecord sent).Accounts w := fun u hu =>
    .ite (fun _ => hu.of_same) fun _ => hu
  have emitted : ∀ u : State, u.Accounts w → (u.emitTrailer sent).Accounts w := fun u hu => hu.of_same
  exact emitted _ (given _ (begun _ h.of_same))

theorem inProgress_restartReports (s : State) : s.restartReports.port.inProgress = s.port.inProgress := by
  obtain ⟨-, -, port⟩ := sameRest_forAll (fun p s => sameRest_onSlot s p fun c => { c with lock := 0 })
    { s with reports := [], lost := 0, port := { s.port with recordHeld := false } }
  unfold State.restartReports
  rw [port]

theorem State.Accounts.restartReports (h : s.Accounts w) : s.restartReports.Accounts w :=
  h.keep (fun _ hs => hs.restartReports) (inProgress_restartReports s)

theorem State.Accounts.lowerLock (h : s.Accounts w) (p : Position) : (s.lowerLock p).Accounts w :=
  h.keepRest (fun _ hs => hs.lowerLock p) (sameRest_lowerLock p s)

theorem State.Accounts.frameTimeout (h : s.Accounts w) (cut : Nat) :
    ∃ t, execFrameTimeout cut s = .next t ∧ t.Accounts w :=
  ⟨_, rfl, h.live (.ite (fun _ => h) fun _ => h.expireFrameTimer cut)⟩

theorem State.Accounts.scanStepStart (h : s.Accounts w) : ∃ t, execScanStepStart s = .next t ∧ t.Accounts w := by
  refine ⟨_, rfl, h.live ?_⟩
  split
  · exact h
  · exact h.takeSample.startStep _
  · exact h.startStep _

theorem State.Accounts.takeTariff (h : s.Accounts w) (band period charge : Byte) (rate : Word) :
    (s.takeTariff band period charge rate).Accounts w := by
  unfold State.takeTariff
  split
  · exact h.of_same
  · exact h

theorem State.Accounts.takeSchedule (h : s.Accounts w) (slot : Byte) (minute : Word) (period : Byte) :
    (s.takeSchedule slot minute period).Accounts w := by
  unfold State.takeSchedule
  split
  · exact h.of_same
  · exact h

theorem State.Accounts.takePosition (h : s.Accounts w) (number mode : Byte) : (s.takePosition number mode).Accounts w := by
  refine h.keep (fun _ hs => hs.takePosition number mode) ?_
  unfold State.takePosition
  split <;> rfl

theorem State.Accounts.arrearsExpiry (h : s.Accounts w) (serial : BitVec 32) :
    ∃ t, execArrearsExpiry serial s = .next t ∧ t.Accounts w := by
  refine ⟨_, rfl, h.live ?_⟩
  split
  next e he =>
    have expired : (s.expire e).Accounts w :=
      h.keepRest (fun _ hs => hs.expire (findEntry_mem he).1) (sameRest_expire s e)
    exact .ite (fun _ => expired) fun _ => h
  next => exact h

theorem State.Accounts.lockedRead (h : s.Accounts w) (p : Position) (a : WordAddr) (rest : BitVec 32) :
    ∃ t, execLockedRead p a rest s = .next t ∧ t.Accounts w :=
  ⟨_, rfl, h.arrive p (fun hs => (hs.onSlotSame (p := p)).sendRead ..) rfl⟩

theorem State.Accounts.unlock (h : s.Accounts w) (p : Position) : ∃ t, execUnlock p s = .next t ∧ t.Accounts w :=
  ⟨_, rfl, h.arrive p (fun hs => (hs.onSlotSame (p := p)).sendNull ..) rfl⟩

theorem exec_accounts (h : s.Accounts w) (c : Instr) : ∃ t, exec c s = .next t ∧ t.Accounts w := by
  cases c with
  | powerOnReset => exact ⟨_, rfl, (powerOn_accounts (w := w)).of_same⟩
  | warmReset periods => exact h.warmReset periods
  | frameStart cut => exact ⟨_, rfl, h.live (h.frameStart cut)⟩
  | headerArrival frame minute flags table => exact h.headerArrival frame minute flags table
  | restart => exact ⟨_, rfl, h.live h.restartReports⟩
  | tariff band period charge rate => exact ⟨_, rfl, h.live (h.takeTariff ..)⟩
  | schedule slot minute period => exact ⟨_, rfl, h.live (h.takeSchedule ..)⟩
  | setting number value => exact ⟨_, rfl, h.live h.of_same⟩
  | position number mode => exact ⟨_, rfl, h.live (h.takePosition ..)⟩
  | null p => exact ⟨_, rfl, h.arrive p (fun hs => hs.decideNull p) (inProgress_decideNull ..)⟩
  | read p a rest => exact ⟨_, rfl, h.arrive p (fun hs => hs.sendRead ..) rfl⟩
  | write p a v c =>
    exact ⟨_, rfl, h.arrive p (fun hs => hs.vetted fun hcheck => hs.passesWrite hcheck) (inProgress_vetted ..)⟩
  | protectedWrite p a v c =>
    exact ⟨_, rfl, h.arrive p (fun hs => hs.vetted fun hcheck => passesProtected hcheck) (inProgress_vetted ..)⟩
  | lockedRead p a rest => exact h.lockedRead p a rest
  | unlock p => exact h.unlock p
  | unknownKind p code => exact ⟨_, rfl, h.arrive p (fun hs => hs.kill ..) (inProgress_kill ..)⟩
  | absent | ready | data | accepted | busy | written | error | unknownStatus => exact ⟨_, rfl, h.reply ..⟩
  | frameEnd trailer => exact h.frameEnd trailer
  | lockExpired p => exact ⟨_, rfl, h.live (.ite (fun _ => h.lowerLock p) fun _ => h)⟩
  | writeTimeout p =>
    refine ⟨_, rfl, h.live (.ite (fun hframes => ?_) fun _ => h)⟩
    obtain ⟨r, hr⟩ : ∃ r, (s.slot p).inFlight = some r := by
      cases hc : (s.slot p).inFlight with
      | none => simp [hc] at hframes
      | some r => exact ⟨r, rfl⟩
    exact h.declareFault hr
  | trailerRecord sent => exact ⟨_, rfl, h.live (.ite (fun _ => h.trailer ..) fun _ => h)⟩
  | frameTimeout cut => exact h.frameTimeout cut
  | longLost => exact ⟨_, rfl, h.live (.ite (fun _ => h.enterLongLost) fun _ => h)⟩
  | chargeTick => exact ⟨_, rfl, h.live h.tick⟩
  | graceExpired p =>
    exact ⟨_, rfl, h.live (.ite (fun _ => h.keepRest (fun _ hs => hs.countGrace p) (localAt_countGrace ..).rest) fun _ => h)⟩
  | clearDownAssertEnd p =>
    exact ⟨_, rfl, h.live (.ite (fun _ => h.keepRest (fun _ hs => hs.moveTimer p) (localAt_moveTimer ..).rest) fun _ => h)⟩
  | clearDownGapEnd p =>
    exact ⟨_, rfl, h.live (.ite (fun _ => h.keepRest (fun _ hs => hs.moveTimer p) (localAt_moveTimer ..).rest) fun _ => h)⟩
  | flashStep => exact ⟨_, rfl, h.live h.of_same⟩
  | ageStep => exact ⟨_, rfl, h.live h.ageEntries⟩
  | arrearsExpiry serial => exact h.arrearsExpiry serial
  | scanStepStart => exact h.scanStepStart
  | senseSample rows =>
    refine ⟨_, rfl, h.live (.ite (fun _ => h.keep (fun _ hs => hs.sampleColumn rows) ?_) fun _ => h)⟩
    rw [port_sampleColumn]
  | driveSegment => exact ⟨_, rfl, h.live (.ite (fun _ => h.takeSample.startDrive) fun _ => h)⟩
  | resetRelease strap => exact h.resetRelease strap

theorem step_accounts (h : s.Accounts w) (hstep : step s = .next u) : u.Accounts w := by
  unfold step at hstep
  split at hstep
  next => exact Host.Outcome.next.inj hstep ▸ h.clockPeriod
  next c rest _ =>
    have queued : { s with pending := rest }.Accounts w := h.of_same
    obtain ⟨v, hv, accounts⟩ := exec_accounts queued c
    exact Host.Outcome.next.inj (hv.symm.trans hstep) ▸ accounts

/-- Settles O57: of what a step keeps, the account of units. -/
theorem everyStepKeepsTheAccount : Obligations.EveryStepKeepsTheAccount := by
  intro s t hr hs hstep
  exact (step_accounts (accounts_of_accounted (w := False) hs hr False.elim) hstep).accounted

/-- Settles O58: of what a step keeps, the evaluated credit. -/
theorem everyStepSettlesCredit : Obligations.EveryStepSettlesCredit := by
  intro s t hr hs hc hstep
  exact (step_accounts (accounts_of_accounted (w := True) hs hr fun _ => hc) hstep).creditSettled trivial

end Sys2Proof.Machine

/-! ## The queue, the minute and the tariff through a command (R26, R28, R156) -/

namespace Sys2Proof.Machine

variable {s t u : State}

/-- From `s` to `t` the waiting commands stay, every SET tariff entry stays SET, and, outside a header arrival, the minute
of day stays. -/
structure Steady (header : Prop) (s t : State) : Prop where
  pending : t.pending = s.pending
  minute : ¬ header → t.minute = s.minute
  tariff : ∀ (b : Band) (q : Period), s.tariff[b][q] ≠ none → t.tariff[b][q] ≠ none

variable {header : Prop}

theorem Steady.refl (s : State) : Steady header s s := ⟨rfl, fun _ => rfl, fun _ _ => id⟩

theorem Steady.trans (h : Steady header s t) (h' : Steady header t u) : Steady header s u :=
  ⟨h'.pending.trans h.pending, fun hn => (h'.minute hn).trans (h.minute hn), fun b q hq => h'.tariff b q (h.tariff b q hq)⟩

/-- An update of other fields than the queue, the minute and the tariff. -/
theorem Steady.of_same (hp : t.pending = s.pending := by rfl) (hm : t.minute = s.minute := by rfl)
    (ht : t.tariff = s.tariff := by rfl) : Steady header s t :=
  ⟨hp, fun _ => hm, fun _ _ => by rw [ht]; exact id⟩

theorem Steady.of_tables (h : SameTables s t) (hp : t.pending = s.pending) : Steady header s t := by
  obtain ⟨tariff, _, _, minute⟩ := h
  exact .of_same hp minute tariff

theorem Steady.of_rest (h : SameRest s t) : Steady header s t := by
  obtain ⟨tables, ⟨_, _, _, _, _, pending, _⟩, _⟩ := h
  exact .of_tables tables pending

theorem Steady.ite {c : Prop} [Decidable c] (ht : c → Steady header s t) (hu : ¬ c → Steady header s u) :
    Steady header s (if c then t else u) := by
  split
  next h => exact ht h
  next h => exact hu h

theorem steady_live {f : State → State} (h : Steady header s (f s)) : Steady header s (s.live f) :=
  .ite (fun _ => .refl s) fun _ => h

theorem steady_inFrame {f : State → State} (h : Steady header s (f s)) : Steady header s (s.inFrame f) :=
  steady_live (.ite (fun _ => h) fun _ => .refl s)

theorem steady_arrive {f : State → State} (h : ∀ s, Steady header s (f s)) (s : State) (p : Position) :
    Steady header s (s.arrive p f) := by
  have reached : Steady header s (s.reach (requestIn p)) := .of_same
  exact steady_inFrame (reached.trans (h _))

/-! ### Requests and replies -/

theorem steady_send (s : State) (p : Position) (r : SlotRecord) (w : SlotBytes) : Steady header s (s.send p r w) :=
  .of_same

theorem steady_kill (s : State) (p : Position) (cause : RefuseCause) (n : Nat) : Steady header s (s.kill p cause n) :=
  (steady_send ..).trans (.of_rest (sameRest_place ..))

theorem steady_insert (s : State) (p : Position) (q : OwnRequest) (first : Bool) :
    Steady header s (s.insert p q first) := by
  cases first
  · exact steady_send ..
  · exact (Steady.of_rest (sameRest_onSlot s p fun c => { c with held := some { request := q, tries := 0 } })).trans
      (steady_send ..)

theorem steady_decideNull (s : State) (p : Position) : Steady header s (s.decideNull p) := by
  refine .ite (fun _ => ?_) fun _ => steady_send ..
  split
  · exact steady_insert ..
  · split
    · exact steady_insert ..
    · exact steady_send ..

theorem steady_vetted (s : State) (p : Position) (check : Option RefuseCause) (a : WordAddr) (v c : Word)
    (x : Treatment) : Steady header s (s.vetted p check a v c x) := by
  refine .ite (fun _ => steady_send ..) fun _ => ?_
  split
  · exact steady_kill ..
  · have banded : Steady header s
        (if a = 6 then s.onBooth p fun b => { b with band := some (s.bandOf v) } else s) :=
      .ite (fun _ => .of_rest (sameRest_onBooth ..)) fun _ => .refl s
    exact banded.trans (steady_send ..)

theorem steady_reply (s : State) (p : Position) (r : Reply) (w : SlotBytes) : Steady header s (s.reply p r w) := by
  have answered : ∀ (t : State) x, Steady header t (t.answer p x) := fun _ _ => .of_same
  have reached : Steady header s (s.reach (replyIn p)) := .of_same
  exact steady_inFrame ((reached.trans (.of_rest (sameRest_takeReply ..))).trans (answered ..))

/-! ### Headers and table words -/

theorem steady_restartReports (s : State) : Steady header s s.restartReports := by
  have emptied : Steady header s { s with reports := [], lost := 0, port := { s.port with recordHeld := false } } :=
    .of_same
  exact emptied.trans (.of_rest (sameRest_forAll (fun _ _ => sameRest_onSlot ..) _))

/-- A TARIFF word makes an entry SET and makes none UNSET (R28, R156). -/
theorem steady_takeTariff (s : State) (band period charge : Byte) (rate : Word) :
    Steady header s (s.takeTariff band period charge rate) := by
  unfold State.takeTariff
  split
  next b' q' _ _ =>
    refine ⟨rfl, fun _ => rfl, fun b q hset => ?_⟩
    simp only [Fin.getElem_fin, Vector.getElem_set]
    split
    next hb =>
      rw [Vector.getElem_set]
      split
      · exact Option.some_ne_none _
      · rw [Fin.getElem_fin, Fin.getElem_fin] at hset
        simpa [hb] using hset
    next => exact hset
  next => exact .refl s

theorem steady_takeSchedule (s : State) (slot : Byte) (minute : Word) (period : Byte) :
    Steady header s (s.takeSchedule slot minute period) := by
  unfold State.takeSchedule
  split
  · exact .of_same
  · exact .refl s

theorem steady_takeSetting (s : State) (number : Byte) (value : Word) :
    Steady header s (s.takeSetting number value) := .of_same

theorem steady_takePosition (s : State) (number mode : Byte) : Steady header s (s.takePosition number mode) := by
  unfold State.takePosition
  split
  · exact .of_rest (sameRest_onBooth ..)
  · exact .refl s

theorem steady_takeTableWord (s : State) (table : TableBytes) : Steady header s (s.takeTableWord table) := by
  unfold State.takeTableWord
  split
  · exact steady_takeTariff ..
  · exact steady_takeSchedule ..
  · exact steady_takeSetting ..
  · exact steady_takePosition ..
  · exact .refl s

/-- The minute of day moves here alone (R26). -/
theorem steady_headerArrival (s : State) (frame : Byte) (minute : Word) (flags : Byte) (table : TableBytes) :
    ∃ t, execHeaderArrival frame minute flags table s = .next t ∧ Steady True s t := by
  have numbered : Steady True s { s.reach 10 with
      port := { (s.reach 10).port with frameNumber := some frame, upHeader := some frame,
                                       downHeader := some (headerBytes frame minute flags table) } } := .of_same
  have timed : ∀ t : State, Steady True t (t.takeMinute minute) := fun t =>
    .ite (fun _ => ⟨rfl, fun h => absurd trivial h, fun _ _ => id⟩) fun _ => .refl t
  have restarted : ∀ t : State, Steady True t (if restartFlag flags then t.restartReports else t) := fun t =>
    .ite (fun _ => steady_restartReports t) fun _ => .refl t
  have worded : ∀ t : State, Steady True t (if tableWordPresent flags then t.takeTableWord table else t) := fun t =>
    .ite (fun _ => steady_takeTableWord t table) fun _ => .refl t
  exact ⟨_, rfl, steady_inFrame (((numbered.trans (timed _)).trans (restarted _)).trans (worded _))⟩

/-! ### Frames and the highway -/

theorem steady_cutFrame (s : State) (cut : Nat) : Steady header s (s.cutFrame cut) := by
  have closed : ∀ t : State, Steady header t { t with port := { t.port with inProgress := false } } := fun _ => .of_same
  exact .ite (fun _ => (Steady.of_rest (sameRest_forAll (fun p s => sameRest_cutSlot s _ p) s)).trans (closed _))
    fun _ => .refl s

theorem steady_beginFrame (s : State) : Steady header s s.beginFrame := .of_same

/-- A lost record touches its own position alone (R144). -/
theorem sameRest_losePosition (p : Position) (s : State) : SameRest s (s.losePosition p) := by
  have lost : SameRest s (s.loseRecord p) := by
    unfold State.loseRecord
    split
    · exact SameRest.refl s
    · dsimp only
      split
      · exact (sameRest_onSlot ..).trans (sameRest_onBooth ..)
      · exact sameRest_onSlot ..
  exact (lost.trans (sameRest_onSlot ..)).trans (sameRest_onBooth ..)

theorem steady_enterLost (s : State) (cut : Nat) : Steady header s (s.enterLost cut) := by
  have moved : ∀ (t : State) port sup, Steady header t { t with port := port, sup := sup } := fun _ _ _ => .of_same
  exact (((steady_cutFrame s cut).trans (.of_rest (sameRest_forAll sameRest_losePosition _))).trans
    (.of_rest (sameRest_place ..))).trans (moved ..)

theorem steady_frameTimeout (s : State) (cut : Nat) :
    ∃ t, execFrameTimeout cut s = .next t ∧ Steady header s t := by
  have held : Steady header s { s with sup := { s.sup with frameTimer := some Config.frameTimeoutPeriods } } := .of_same
  exact ⟨_, rfl, steady_live (.ite (fun _ => .refl s) fun _ =>
    .ite (fun _ => held.trans (steady_enterLost ..)) fun _ => held)⟩

theorem steady_enterLongLost (s : State) : Steady header s s.enterLongLost := by
  have stopped : Steady header s { s with sup := { s.sup with highway := .longLost, lossTimer := none } } := .of_same
  refine stopped.trans (.of_rest (sameRest_forAll (fun p s => ?_) _))
  split
  · exact (localAt_enterClearing ..).rest
  · exact SameRest.refl s

theorem steady_completeFrame (s : State) : Steady header s s.completeFrame := by
  have moved : ∀ (t : State) sup, Steady header t { t with sup := sup } := fun _ _ => .of_same
  have again : ∀ t : State, Steady header t (if t.sup.expired then t.enterLost 0 else t) := fun t =>
    .ite (fun _ => steady_enterLost t 0) fun _ => .refl t
  have restored : ∀ r, Steady header s (s.place r) := fun r => .of_rest (sameRest_place s r)
  unfold State.completeFrame
  split
  · exact .refl s
  · exact (moved s _).trans (again _)
  all_goals exact ((restored _).trans (moved ..)).trans (again _)

theorem steady_frameEnd (s : State) (trailer : TenBytes) :
    ∃ t, execFrameEnd trailer s = .next t ∧ Steady header s t := by
  have ended : Steady header s { s.reach 152 with
      port := { (s.reach 152).port with inProgress := false, downTrailer := some trailer } } := .of_same
  have timed : ∀ p (t : State), SameRest t (t.timeOut p) := by
    intro p t
    unfold State.timeOut
    split
    · exact sameRest_declareFault ..
    · exact SameRest.refl t
  have counted : ∀ t : State, Steady header t
      (((t.forAll State.lowerLock).forAll State.countFrame).forAll State.timeOut) := fun t =>
    .of_rest (((sameRest_forAll sameRest_lowerLock t).trans (sameRest_forAll (fun _ _ => sameRest_onSlot ..) _)).trans
      (sameRest_forAll timed _))
  exact ⟨_, rfl, steady_inFrame ((ended.trans (counted _)).trans (steady_completeFrame _))⟩

theorem steady_trailer (s : State) (sent n : Nat) :
    Steady header s ((((s.reach n).beginTrailer).giveUpRecord sent).emitTrailer sent) := by
  have reached : Steady header s (s.reach n) := .of_same
  have begun : ∀ t : State, Steady header t t.beginTrailer := by
    intro t
    unfold State.beginTrailer
    split
    · exact .refl t
    · exact .of_same
  have given : ∀ t : State, Steady header t (t.giveUpRecord sent) := fun t => .ite (fun _ => .of_same) fun _ => .refl t
  have emitted : ∀ t : State, Steady header t (t.emitTrailer sent) := fun _ => .of_same
  exact ((reached.trans (begun _)).trans (given _)).trans (emitted _)

/-! ### Ticks -/

theorem steady_ageEntries (s : State) : Steady header s s.ageEntries :=
  List.foldlRecOn _ _ .of_same fun t ht e _ => ht.trans (.of_rest (sameRest_expire t e))

theorem steady_tick (s : State) : Steady header s s.tick := by
  have counted : ∀ n, Steady header s { s with divider := 0, tickCount := n, sup := s.sup.tick } := fun _ => .of_same
  have ticked : ∀ t : State, Steady header t (t.forAll State.tickBooth) := fun t =>
    .of_rest (sameRest_forAll (fun p s => (localAt_tickBooth p s).rest) t)
  have flashed : ∀ (t : State) (n : Nat), Steady header t (if n % Config.ticksPerFlashStep = 0 then t.toggleFlash else t) :=
    fun t n => .ite (fun _ => .of_same) fun _ => .refl t
  have aged : ∀ (t : State) (n : Nat), Steady header t (if n = 0 then t.ageEntries else t) := fun t n =>
    .ite (fun _ => steady_ageEntries t) fun _ => .refl t
  exact (((counted _).trans (ticked _)).trans (flashed _ _)).trans (aged _ _)

theorem steady_arrearsExpiry (s : State) (serial : BitVec 32) :
    ∃ t, execArrearsExpiry serial s = .next t ∧ Steady header s t := by
  refine ⟨_, rfl, steady_live ?_⟩
  split
  · exact .ite (fun _ => .of_rest (sameRest_expire ..)) fun _ => .refl s
  · exact .refl s

/-! ### The line scan -/

theorem steady_sampleColumn (s : State) (rows : RowInputs) : Steady header s (s.sampleColumn rows) := by
  have scanned : ∀ (t : State) scan, Steady header t { t with scan := scan } := fun _ _ => .of_same
  have sampled : ∀ (t : State) p, Steady header t (t.sampleBooth (rowsRead rows) p) := fun t p =>
    ((scanned t _).trans (.of_rest (sampleLoop_rest ..))).trans ((scanned _ _).trans (.of_rest (sampleAnswer_rest ..)))
  exact List.foldlRecOn _ _ (scanned s _) fun t ht p _ => ht.trans (sampled t p)

theorem steady_takeSample (s : State) : Steady header s s.takeSample := by
  have drawn : Steady header s { s with draws := s.draws + 1 } := .of_same
  exact .ite (fun _ => .refl s) fun _ => drawn.trans (steady_sampleColumn ..)

theorem steady_scanStepStart (s : State) : ∃ t, execScanStepStart s = .next t ∧ Steady header s t := by
  have started : ∀ (t : State) c, Steady header t (t.startStep c) := fun _ _ => .of_same
  refine ⟨_, rfl, steady_live ?_⟩
  split
  · exact .refl s
  · exact (steady_takeSample s).trans (started ..)
  · exact started ..

theorem steady_driveSegment (s : State) : ∃ t, execDriveSegment s = .next t ∧ Steady header s t := by
  have driven : ∀ t : State, Steady header t t.startDrive := fun _ => .of_same
  exact ⟨_, rfl, steady_live (.ite (fun _ => (steady_takeSample s).trans (driven _)) fun _ => .refl s)⟩

/-! ### Resets -/

theorem pending_warm (s : State) : s.warm.pending = s.pending := by
  obtain ⟨_, ⟨_, _, _, _, _, pending, _⟩, _⟩ := warmBooths_rest s
  unfold State.warm
  generalize s.warmBooths = t at pending
  exact pending

theorem steady_warm (s : State) : Steady header s s.warm := .of_tables (sameTables_warm s) (pending_warm s)

theorem steady_warmReset (s : State) (periods : Nat) : ∃ t, execWarmReset periods s = .next t ∧ Steady header s t := by
  have drawn : Steady header s { s with draws := s.draws + 1 } := .of_same
  have pulsed : Steady header s (s.resetPulse periods) :=
    .ite (fun _ => .refl s) fun _ => .ite (fun _ => steady_warm s) fun _ =>
      .ite (fun _ => drawn.trans (steady_warm _)) fun _ => drawn
  have lowered : Steady header s (s.lowerLine periods) := .ite (fun _ => .refl s) fun _ => .of_same
  exact ⟨_, rfl, .ite (fun _ => lowered) fun _ => pulsed⟩

theorem steady_resetRelease (s : State) (strap : Bool) :
    ∃ t, execResetRelease strap s = .next t ∧ Steady header s t := by
  have high : Steady header s { s with lineLow := false } := .of_same
  have released : ∀ t : State, Steady header t (t.release strap) := fun _ => .of_same
  exact ⟨_, rfl, .ite (fun _ => .ite (fun _ => high) fun _ => high.trans (released _)) fun _ => .refl s⟩

/-! ### Every command -/

/-- Every command but a power-on reset completes and is steady, the minute moving at a header arrival alone. -/
theorem exec_steady (s : State) (c : Instr) (hc : c ≠ .powerOnReset) :
    ∃ t, exec c s = .next t ∧ Steady (∃ f m g w, c = .headerArrival f m g w) s t := by
  cases c with
  | powerOnReset => exact absurd rfl hc
  | warmReset periods => exact steady_warmReset s periods
  | frameStart cut =>
    exact ⟨_, rfl, steady_live ((steady_cutFrame s cut).trans (steady_beginFrame _))⟩
  | headerArrival frame minute flags table =>
    obtain ⟨t, ht, steady⟩ := steady_headerArrival s frame minute flags table
    exact ⟨t, ht, steady.pending, fun hn => absurd ⟨frame, minute, flags, table, rfl⟩ hn, steady.tariff⟩
  | restart => exact ⟨_, rfl, steady_live (steady_restartReports s)⟩
  | tariff => exact ⟨_, rfl, steady_live (steady_takeTariff ..)⟩
  | schedule => exact ⟨_, rfl, steady_live (steady_takeSchedule ..)⟩
  | setting => exact ⟨_, rfl, steady_live (steady_takeSetting ..)⟩
  | position => exact ⟨_, rfl, steady_live (steady_takePosition ..)⟩
  | null p => exact ⟨_, rfl, steady_arrive (fun s => steady_decideNull s p) s p⟩
  | read p => exact ⟨_, rfl, steady_arrive (fun s => steady_send ..) s p⟩
  | write p | protectedWrite p => exact ⟨_, rfl, steady_arrive (fun s => steady_vetted ..) s p⟩
  | lockedRead p | unlock p =>
    exact ⟨_, rfl, steady_arrive (fun s => (Steady.of_rest (sameRest_onSlot ..)).trans (steady_send ..)) s p⟩
  | unknownKind p => exact ⟨_, rfl, steady_arrive (fun s => steady_kill ..) s p⟩
  | absent | ready | data | accepted | busy | written | error | unknownStatus => exact ⟨_, rfl, steady_reply ..⟩
  | frameEnd trailer => exact steady_frameEnd s trailer
  | lockExpired p =>
    exact ⟨_, rfl, steady_live (.ite (fun _ => .of_rest (sameRest_lowerLock p s)) fun _ => .refl s)⟩
  | writeTimeout p =>
    exact ⟨_, rfl, steady_live (.ite (fun _ => .of_rest (sameRest_declareFault s p)) fun _ => .refl s)⟩
  | trailerRecord sent => exact ⟨_, rfl, steady_live (.ite (fun _ => steady_trailer s sent _) fun _ => .refl s)⟩
  | frameTimeout cut => exact steady_frameTimeout s cut
  | longLost => exact ⟨_, rfl, steady_live (.ite (fun _ => steady_enterLongLost s) fun _ => .refl s)⟩
  | chargeTick => exact ⟨_, rfl, steady_live (steady_tick s)⟩
  | graceExpired p =>
    exact ⟨_, rfl, steady_live (.ite (fun _ => .of_rest (localAt_countGrace s p).rest) fun _ => .refl s)⟩
  | clearDownAssertEnd p | clearDownGapEnd p =>
    exact ⟨_, rfl, steady_live (.ite (fun _ => .of_rest (localAt_moveTimer s p).rest) fun _ => .refl s)⟩
  | flashStep => exact ⟨_, rfl, steady_live .of_same⟩
  | ageStep => exact ⟨_, rfl, steady_live (steady_ageEntries s)⟩
  | arrearsExpiry serial => exact steady_arrearsExpiry s serial
  | scanStepStart => exact steady_scanStepStart s
  | senseSample rows =>
    exact ⟨_, rfl, steady_live (.ite (fun _ => steady_sampleColumn s rows) fun _ => .refl s)⟩
  | driveSegment => exact steady_driveSegment s
  | resetRelease strap => exact steady_resetRelease s strap

/-- Settles O3: every command but a power-on reset is steady, and that keeps the queue by its own definition. -/
theorem everyCommandCompletesAndKeepsTheQueue : Obligations.EveryCommandCompletesAndKeepsTheQueue := by
  intro c s
  by_cases hc : c = .powerOnReset
  · subst hc
    exact ⟨_, rfl, rfl⟩
  · obtain ⟨t, ht, steady⟩ := exec_steady s c hc
    exact ⟨t, ht, steady.pending⟩

/-- Settles O59: every command but a power-on reset is steady. -/
theorem tariffStaysSetAndMinuteFollowsHeaders : Obligations.TariffStaysSetAndMinuteFollowsHeaders := by
  intro s t c hexec hc
  obtain ⟨t', ht', steady⟩ := exec_steady s c hc
  obtain rfl := Host.Outcome.next.inj (ht'.symm.trans hexec)
  exact ⟨steady.tariff, fun hn => steady.minute fun ⟨f, m, g, w, h⟩ => hn f m g w h⟩

end Sys2Proof.Machine

/-! ## Resets and the front of the queue (R23, R77, R171, R179) -/

namespace Sys2Proof.Machine

variable {s : State}

/-! ### A pass that writes one table of contexts maps it -/

/-- A pass of booth writes touches the booths alone. -/
theorem forAll_onBooth (s : State) (f : Booth → Booth) :
    s.forAll (fun p s => s.onBooth p f) = { s with booths := s.booths.map f } := by
  have booths : ∀ p, (s.forAll fun p s => s.onBooth p f).booth p = f (s.booth p) := fun p =>
    (booth_forAll (g := fun _ b _ => f b) (k := fun _ _ c => c) (fun p s => by simp) (fun p s => by simp)
      (fun p s => (localAt_onBooth s p f).booths) (fun p s => (localAt_onBooth s p f).slots) s p).1
  have written : ∃ v, s.forAll (fun p s => s.onBooth p f) = { s with booths := v } :=
    forAll_induct (P := fun t => ∃ v, t = { s with booths := v }) (by rintro p _ ⟨v, rfl⟩; exact ⟨_, rfl⟩) s ⟨_, rfl⟩
  obtain ⟨v, hv⟩ := written
  rw [hv] at booths ⊢
  congr 1
  apply Vector.ext
  intro i hi
  rw [Vector.getElem_map]
  exact booths ⟨i, hi⟩

/-- A pass of interception context writes touches those contexts alone. -/
theorem forAll_onSlot (s : State) (f : Intercept → Intercept) :
    s.forAll (fun p s => s.onSlot p f) = { s with slots := s.slots.map f } := by
  have slots : ∀ p, (s.forAll fun p s => s.onSlot p f).slot p = f (s.slot p) := fun p =>
    (booth_forAll (g := fun _ b _ => b) (k := fun _ _ c => f c) (fun p s => by simp) (fun p s => by simp)
      (fun p s => (localAt_onSlot s p f).booths) (fun p s => (localAt_onSlot s p f).slots) s p).2
  have written : ∃ v, s.forAll (fun p s => s.onSlot p f) = { s with slots := v } :=
    forAll_induct (P := fun t => ∃ v, t = { s with slots := v }) (by rintro p _ ⟨v, rfl⟩; exact ⟨_, rfl⟩) s ⟨_, rfl⟩
  obtain ⟨v, hv⟩ := written
  rw [hv] at slots ⊢
  congr 1
  apply Vector.ext
  intro i hi
  rw [Vector.getElem_map]
  exact slots ⟨i, hi⟩

/-! ### Power-on reset and release -/

/-- Settles O1: the step of a queue that is not empty. -/
theorem stepRunsFrontCommand : Obligations.StepRunsFrontCommand := by
  intro c rest s h
  unfold step
  rw [h]

/-- Settles O4: each field of the power-on state, and what is computed from them. -/
theorem powerOnResetValues : Obligations.PowerOnResetValues := by
  intro s
  refine ⟨_, rfl, fun p => ?_, fun p => ?_, rfl, fun b q => ?_, fun n => ?_, rfl, rfl, rfl, rfl, rfl, rfl, rfl, fun _ => rfl, rfl,
    rfl, rfl, rfl, rfl, rfl, rfl, rfl, rfl, rfl, rfl, rfl⟩
  · exact booth_powerOn p
  · exact slot_powerOn p
  · simp [State.powerOn]
  · simp [State.powerOn]

/-- A power-on reset is still young below 4,096 periods (R179). -/
theorem poweringUp_eq_false_iff : s.poweringUp = false ↔ ∀ n, s.powerUp = some n → 4096 ≤ n := by
  unfold State.poweringUp
  cases s.powerUp <;> simp

/-- Settles O5: a reset that is asserted is released unless it is a young power-on reset. -/
theorem resetReleaseStartsTheScan : Obligations.ResetReleaseStartsTheScan := by
  intro s strap
  refine ⟨fun hreset hold => ?_, fun n hreset hn hlt => ?_, fun hrun => ?_⟩
  · have released : State.poweringUp { s with lineLow := false } = false := poweringUp_eq_false_iff.mpr hold
    unfold exec execResetRelease
    dsimp only
    rw [if_pos hreset, if_neg (Bool.eq_false_iff.mp released)]
    rfl
  · have young : State.poweringUp { s with lineLow := false } = true := by
      rw [← Bool.not_eq_false, poweringUp_eq_false_iff]
      exact fun hold => absurd (hold n hn) (Nat.not_le.mpr hlt)
    unfold exec execResetRelease
    dsimp only
    rw [if_pos hreset, if_pos young]
  · exact congrArg Host.Outcome.next (if_neg (Bool.eq_false_iff.mp hrun))

/-- The state after reset is the power-on state, released with the strap high. -/
theorem reset_eq_release : State.reset = State.powerOn.release true := rfl

/-- Settles O7: the power-on state meets the invariants, and a release keeps them. -/
theorem resetStateMeetsTheInvariants : Obligations.ResetStateMeetsTheInvariants := by
  unfold Obligations.ResetStateMeetsTheInvariants
  rw [reset_eq_release]
  have fit : (State.powerOn.release true).Fit True True [] := powerOn_fit.release true
  have accounts : (State.powerOn.release true).Accounts True := powerOn_accounts.release true
  exact ⟨ranged_nil_iff.mp (fit.ranged trivial), ⟨List.nodup_nil, fun _ _ _ => nofun⟩,
    modesAgree_iff.mpr (fit.modes trivial), accounts.accounted, accounts.creditSettled trivial⟩

/-! ### Warm reset -/

theorem warmBooths_eq (s : State) : s.warmBooths = { s with booths := s.booths.map Booth.warm } := forAll_onBooth s _

/-- The sum of a warm reset as the list, the dropped units and the records. -/
def WarmSum.parts (x : WarmSum) : List ArrearsEntry × Nat × List Report := (x.arrears, x.dropped, x.opened)

/-- The state of a warm reset, its sum given by its parts (R23, R77, R171). -/
theorem warm_eq (s : State) {m : List ArrearsEntry × Nat × List Report} (h : s.warmSum.parts = m) :
    s.warm = { s with
      booths := s.booths.map Booth.warm, slots := Vector.replicate 24 Intercept.powerOn, arrears := m.1, divider := 0,
      tickCount := 0, port := Port.reset, sup := Supervisor.reset, scan := Scanner.reset,
      reports := .ofRow .warmRestart m.2.1 m.2.2.length :: m.2.2, lost := 0, resetAsserted := true, powerUp := none,
      lineLow := true, ledger := { s.ledger with dropped := s.ledger.dropped + m.2.1 } } := by
  subst h
  unfold State.warm WarmSum.parts
  rw [warmBooths_eq]

/-- A pulse that is taken, or not, by its length (R179). -/
theorem warmReset_of_running (h : s.running) (periods : Nat) : exec (.warmReset periods) s = .next (s.resetPulse periods) :=
  congrArg Host.Outcome.next (if_neg (Bool.eq_false_iff.mp h))

theorem resetPulse_of_long {periods : Nat} (h : 8 ≤ periods) : s.resetPulse periods = s.warm := by
  have long : ¬ periods < 3 := by omega
  simp [State.resetPulse, long, h]

/-- Settles O6: the debts of the booths leave by `warmBooth`, position by position. -/
theorem warmResetKeepsTablesAndMovesDebtsOut : Obligations.WarmResetKeepsTablesAndMovesDebtsOut := by
  intro s periods
  refine ⟨fun hrun hlong => ?_, fun hrun hshort => ?_, fun hrun hge hlt => ?_, fun hreset => ?_⟩
  · rw [warmReset_of_running hrun, resetPulse_of_long hlong]
    refine congrArg Host.Outcome.next (warm_eq s ?_)
    unfold State.warmSum
    refine (List.foldl_hom WarmSum.parts (g₁ := fun x p => warmBooth (s.booth p) (s.slot p) p x) (fun x p => ?_)).symm
    unfold warmBooth
    dsimp only
    by_cases hnothing : (s.booth p).owed = 0 ∧ outPair (s.slot p) (s.booth p) = none
    · simp only [hnothing, and_self, if_true]
    · simp only [hnothing, if_false]
      cases (s.booth p).debtSerial with
      | none => rfl
      | some n => rfl
  · rw [warmReset_of_running hrun]
    simp [State.resetPulse, hshort]
  · have notShort : ¬ periods < 3 := by omega
    have notLong : ¬ 8 ≤ periods := by omega
    have drawn : State.running { s with draws := s.draws + 1 } := hrun
    rw [warmReset_of_running hrun, warmReset_of_running drawn, resetPulse_of_long (Nat.le_refl 8)]
    simp only [State.resetPulse, notShort, notLong, if_false]
    cases Config.shortPulseTaken s.draws
    · exact .inl rfl
    · exact .inr rfl
  · have lowered : exec (.warmReset periods) s = .next (s.lowerLine periods) :=
      congrArg Host.Outcome.next (if_pos hreset)
    rw [lowered, State.lowerLine]
    by_cases hshort : periods < 3
    · rw [if_pos hshort, if_pos hshort]
    · rw [if_neg hshort, if_neg hshort]

end Sys2Proof.Machine

/-! ## The clock period and the line scan (R24, R128 to R134, R136, R139) -/

namespace Sys2Proof.Machine

variable {s t u : State}

theorem SameRest.settings (h : SameRest s t) : t.settings = s.settings := by
  obtain ⟨⟨_, _, settings, _⟩, _⟩ := h
  exact settings

/-! ### What a sample leaves alone -/

/-- A sample of one booth leaves the rest of the part alone but for the two debounce records (R130, R132). -/
theorem sampleBooth_rest (rows : Byte) (s : State) (p : Position) :
    SameRest { s with scan := (s.sampleBooth rows p).scan } (s.sampleBooth rows p) := by
  have loop := sampleLoop_rest s p (rows.getLsbD (evenRow p))
  have answer := sampleAnswer_rest (s.sampleLoop p (rows.getLsbD (evenRow p))) p (rows.getLsbD (oddRow p))
  obtain ⟨⟨_, _, _, _⟩, ⟨_, _, _, _, ⟨_, _, _, _⟩, _, _⟩, _⟩ := loop
  obtain ⟨⟨_, _, _, _⟩, ⟨_, _, _, _, ⟨_, _, _, _⟩, _, _⟩, _⟩ := answer
  unfold State.sampleBooth
  refine ⟨⟨?_, ?_, ?_, ?_⟩, ⟨?_, ?_, rfl, ?_, ⟨?_, ?_, ?_, ?_⟩, ?_, ?_⟩, ?_⟩ <;> simp_all

/-- A sample leaves the rest of the part alone but for the scanner (R130). -/
theorem sampleColumn_rest (s : State) (x : RowInputs) :
    SameRest { s with scan := (s.sampleColumn x).scan } (s.sampleColumn x) := by
  unfold State.sampleColumn
  generalize columnPositions s.scan.column = k
  have kept : ∀ t : State, SameRest { s with scan := t.scan } t →
      SameRest { s with scan := (k.foldl (State.sampleBooth (rowsRead x)) t).scan }
        (k.foldl (State.sampleBooth (rowsRead x)) t) := by
    induction k with
    | nil => exact fun _ h => h
    | cons p k ih =>
      intro t ht
      refine ih _ ?_
      have one := sampleBooth_rest (rowsRead x) t p
      obtain ⟨⟨_, _, _, _⟩, ⟨_, _, _, _, ⟨_, _, _, _⟩, _, _⟩, _⟩ := ht
      obtain ⟨⟨_, _, _, _⟩, ⟨_, _, _, _, ⟨_, _, _, _⟩, _, _⟩, _⟩ := one
      refine ⟨⟨?_, ?_, ?_, ?_⟩, ⟨?_, ?_, rfl, ?_, ⟨?_, ?_, ?_, ?_⟩, ?_, ?_⟩, ?_⟩ <;> simp_all
  exact kept _ (SameRest.refl _)

theorem running_sampleColumn (h : s.running) (x : RowInputs) : (s.sampleColumn x).running := by
  obtain ⟨_, ⟨_, _, _, _, ⟨asserted, _⟩, _⟩, _⟩ := sampleColumn_rest s x
  exact asserted.trans h

theorem takeSample_of_sampled (h : s.scan.sampled = true) : s.takeSample = s := if_pos h

/-- The sample that no command has brought is one of free inputs of the rows (log entry 2). -/
theorem takeSample_of_unsampled (h : s.scan.sampled = false) : s.takeSample = State.sampleColumn { s with draws := s.draws + 1 }
    { driven := Config.rowsDriven s.draws, level := Config.lineLevels s.draws } := if_neg (Bool.eq_false_iff.mp h)

theorem senseSample_of_unsampled (h : s.running) (hsense : s.scan.segment = .sense) (hs : s.scan.sampled = false)
    (x : RowInputs) : exec (.senseSample x) s = .next (s.sampleColumn x) :=
  congrArg Host.Outcome.next ((State.live_of_running h _).trans (if_pos ⟨hsense, hs⟩))

theorem driveSegment_of_sense (h : s.running) (hsense : s.scan.segment = .sense) :
    exec .driveSegment s = .next s.takeSample.startDrive :=
  congrArg Host.Outcome.next ((State.live_of_running h _).trans (if_pos hsense))

/-- A step begins at the end of a drive segment (R129). -/
theorem scanStepStart_of_drive (h : s.running) {rows : Byte} (hd : s.scan.segment = .drive rows) :
    exec .scanStepStart s = .next (s.startStep (nextColumn s.scan.column)) := by
  refine congrArg Host.Outcome.next ((State.live_of_running h _).trans ?_)
  rw [hd]

/-- In a sense segment a step begins after the sample, where that has not come (log entry 7). -/
theorem scanStepStart_of_sense (h : s.running) (hd : s.scan.segment = .sense) :
    exec .scanStepStart s = .next (s.takeSample.startStep (nextColumn s.scan.column)) := by
  refine congrArg Host.Outcome.next ((State.live_of_running h _).trans ?_)
  rw [hd]

/-- A sense segment whose sample no command has brought goes on as one that SENSE_SAMPLE has ended (log entry 7). -/
theorem takeSample_sampled (h : s.running) (hsense : s.scan.segment = .sense) (hs : s.scan.sampled = false) :
    ∃ x t, exec (.senseSample x) { s with draws := s.draws + 1 } = .next t ∧ s.takeSample = t ∧ t.running ∧
      t.scan.segment = .sense ∧ t.scan.sampled = true ∧ t.scan.column = s.scan.column := by
  have drawn : State.running { s with draws := s.draws + 1 } := h
  have scan := sampleColumn_scan { s with draws := s.draws + 1 }
    { driven := Config.rowsDriven s.draws, level := Config.lineLevels s.draws }
  exact ⟨_, _, senseSample_of_unsampled drawn hsense hs _, takeSample_of_unsampled hs, running_sampleColumn drawn _,
    scan.segment.trans hsense, scan.sampled, scan.column⟩

/-! ### The clock period -/

theorem timerDue_iff {limit : Nat} {x : Option Nat} : timerDue (limit + 1) x = true ↔ x = some limit := by
  unfold timerDue
  cases x <;> simp

/-- What falls due, with the numbers of the timers (R24, R129, R142, R146). -/
theorem due_eq (s : State) : s.due =
    (if s.sup.frameTimer = some 24575 then [.frameTimer] else []) ++
      (if s.sup.lossTimer = some 4095999 then [.lossTimer] else []) ++
      (if 204799 ≤ s.divider then [.tick] else []) ++
      (if s.scan.segment ≠ .off ∧ s.scan.stepSetting * 128 ≤ s.scan.elapsed + 1 then [.segment] else []) := by
  have frame : (timerDue Config.frameTimeoutPeriods s.sup.frameTimer = true) = (s.sup.frameTimer = some 24575) :=
    propext timerDue_iff
  have loss : (timerDue Config.longLossPeriods s.sup.lossTimer = true) = (s.sup.lossTimer = some 4095999) :=
    propext timerDue_iff
  have tick : (Config.tickPeriods ≤ s.divider + 1) = (204799 ≤ s.divider) :=
    propext (Nat.add_le_add_iff_right (m := 204799) (n := 1))
  have segment : (s.scan.segmentDue = true) =
      (s.scan.segment ≠ .off ∧ s.scan.stepSetting * 128 ≤ s.scan.elapsed + 1) := by simp [Scanner.segmentDue]
  simp only [State.due, frame, loss, tick, segment]

/-- On an empty queue a step is a clock period (log entry 1). -/
theorem step_of_empty (h : s.pending = []) : step s = .next s.clockPeriod := by
  unfold step
  rw [h]

theorem clockPeriod_of_asserted (h : s.resetAsserted = true) : s.clockPeriod = s.holdPeriod := if_pos h

theorem clockPeriod_of_running (h : s.running) (hl : s.leaveSense = s) :
    s.clockPeriod = (orderDue 4 s.draws s.due).foldl State.happen
      { s.countPeriod with draws := s.draws + ((orderDue 4 s.draws s.due).length - 1) } := by
  have running : ¬ s.resetAsserted = true := Bool.eq_false_iff.mp h
  unfold State.clockPeriod
  dsimp only
  rw [if_neg running, hl]

/-- While a reset is asserted a period adds to the length of a power-on reset alone (R179, log entry 22). -/
theorem resetPeriod (hempty : s.pending = []) (hreset : s.resetAsserted = true) :
    (s.powerUp = none → step s = .next s) ∧
    (∀ n, s.powerUp = some n →
      (n + 1 < 4096 → step s = .next { s with powerUp := some (n + 1) }) ∧
      (4095 ≤ n → s.lineLow = true → step s = .next { s with powerUp := some 4096 }) ∧
      (4095 ≤ n → s.lineLow = false → ∃ strap,
        step s = exec (.resetRelease strap) { s with powerUp := some 4096, draws := s.draws + 1 })) := by
  rw [step_of_empty hempty, clockPeriod_of_asserted hreset]
  refine ⟨fun hn => ?_, fun n hn => ?_⟩
  · simp [State.holdPeriod, hn]
  · have counted : s.holdPeriod =
        if State.poweringUp { s with powerUp := some (min 4096 (n + 1)) } ∨ s.lineLow then
          { s with powerUp := some (min 4096 (n + 1)) }
        else ({ s with powerUp := some (min 4096 (n + 1)), draws := s.draws + 1 } : State).release
          (Config.strapLevel s.draws) := by
      unfold State.holdPeriod
      rw [hn]
    rw [counted]
    refine ⟨fun hlt => ?_, fun hge hlow => ?_, fun hge hlow => ⟨Config.strapLevel s.draws, ?_⟩⟩
    · have young : State.poweringUp { s with powerUp := some (min 4096 (n + 1)) } = true := by
        exact decide_eq_true ((min_le_right ..).trans_lt hlt)
      rw [if_pos (.inl young), Nat.min_eq_right hlt.le]
    all_goals rw [Nat.min_eq_left (Nat.succ_le_succ hge)]
    · rw [if_pos (.inr hlow)]
    · have old : State.poweringUp { s with powerUp := some 4096 } = false := rfl
      rw [old, hlow, if_neg (by simp)]
      refine congrArg Host.Outcome.next (.trans ?_ (if_pos hreset).symm)
      rw [if_neg (by exact Bool.false_ne_true)]

/-- A sense segment that its sample has ended goes over to its drive segment before the period (R129, R131). -/
theorem sampledPeriod (hempty : s.pending = []) (hrun : s.running) (hsense : s.scan.segment = .sense)
    (hs : s.scan.sampled = true) :
    ∃ u, exec .driveSegment s = .next u ∧ u.scan.segment ≠ .sense ∧ step s = step u := by
  have driven := driveSegment_of_sense hrun hsense
  rw [takeSample_of_sampled hs] at driven
  refine ⟨_, driven, (nomatch ·), ?_⟩
  have left : s.leaveSense = s.startDrive := if_pos ⟨hsense, hs⟩
  have stays : s.startDrive.leaveSense = s.startDrive := if_neg fun h => nomatch h.1
  have empty : s.startDrive.pending = [] := hempty
  have running : ¬ s.resetAsserted = true := Bool.eq_false_iff.mp hrun
  rw [step_of_empty hempty, step_of_empty empty]
  have asserted : s.startDrive.resetAsserted = s.resetAsserted := rfl
  unfold State.clockPeriod
  dsimp only
  rw [asserted, if_neg running, if_neg running, left, stays]

/-- What falls due is a command's work (R24, R142, R146). -/
theorem chargeTick_eq_happen (h : s.running) : exec .chargeTick s = .next (s.happen .tick) :=
  congrArg Host.Outcome.next (State.live_of_running h State.tick)

theorem longLost_eq_happen (h : s.running) : exec .longLost s = .next (s.happen .lossTimer) :=
  congrArg Host.Outcome.next (State.live_of_running h fun s => if s.sup.highway = .lost then s.enterLongLost else s)

theorem frameTimeout_eq_happen (h : s.running) (ht : s.sup.frameTimer ≠ none) :
    exec (.frameTimeout 0) s = .next (s.happen .frameTimer) :=
  congrArg Host.Outcome.next ((State.live_of_running h fun s =>
    if s.sup.frameTimer = none then s else s.expireFrameTimer 0).trans (if_neg ht))

/-- Settles O2: the clock period is taken apart by what falls due. -/
theorem emptyQueuePassesOneClockPeriod : Obligations.EmptyQueuePassesOneClockPeriod := by
  intro s hempty
  refine ⟨resetPeriod hempty, sampledPeriod hempty, fun hrun hopen => ?_⟩
  intro counted due
  have hdue : s.due = due := due_eq s
  have period : step s = .next ((orderDue 4 s.draws due).foldl State.happen
      { counted with draws := s.draws + ((orderDue 4 s.draws due).length - 1) }) := by
    rw [step_of_empty hempty, clockPeriod_of_running hrun (if_neg hopen), hdue]
    rfl
  have single : ∀ d, due = [d] → step s = .next (counted.happen d) := by
    intro d hd
    rw [period, hd]
    rfl
  have runs : counted.running := hrun
  refine ⟨fun hnone => ?_, fun hd => ?_, fun hd => ?_, fun hd => ?_, fun hd hsense => ?_, fun rows hd hdrive => ?_,
    ⟨_, orderDue_perm 4 s.draws due, period⟩,
    fun v hv => ⟨chargeTick_eq_happen hv, longLost_eq_happen hv, frameTimeout_eq_happen hv⟩⟩
  · rw [period, hnone]
    rfl
  · rw [single _ hd, chargeTick_eq_happen runs]
  · have timer : s.sup.frameTimer = some 24575 := by
      by_contra hno
      have member : Due.frameTimer ∈ due := hd ▸ List.mem_singleton_self _
      simp [due, hno] at member
    have started : counted.sup.frameTimer ≠ none := by simp [counted, timer]
    rw [single _ hd, frameTimeout_eq_happen runs started]
  · rw [single _ hd, longLost_eq_happen runs]
  · have unsampled : s.scan.sampled = false := Bool.eq_false_iff.mpr fun h => hopen ⟨hsense, h⟩
    obtain ⟨x, t, hx, htake, htrun, htsense, hts, _⟩ := takeSample_sampled runs hsense unsampled
    refine ⟨x, t, hx, ?_⟩
    rw [single _ hd, driveSegment_of_sense htrun htsense, takeSample_of_sampled hts, ← htake]
    have ends : counted.endSegment = counted.takeSample.startDrive := by
      have sense : counted.scan.segment = .sense := hsense
      unfold State.endSegment
      rw [sense]
    exact congrArg Host.Outcome.next ends
  · rw [single _ hd]
    have drive : counted.scan.segment = .drive rows := hdrive
    have ends : counted.endSegment = counted.startStep (nextColumn counted.scan.column) := by
      unfold State.endSegment
      rw [drive]
    exact (congrArg Host.Outcome.next ends).trans (scanStepStart_of_drive runs drive).symm

/-! ### Scan steps and drive segments -/

theorem nextColumn_eq (c : Fin 6) : nextColumn c = if c = 5 then 0 else c + 1 := by
  revert c
  decide

theorem scanStepStart_of_sampled (h : s.running) (hoff : s.scan.segment ≠ .off)
    (hs : s.scan.segment ≠ .sense ∨ s.scan.sampled = true) :
    exec .scanStepStart s = .next (s.startStep (nextColumn s.scan.column)) := by
  cases hseg : s.scan.segment with
  | off => exact absurd hseg hoff
  | sense =>
    have sampled : s.scan.sampled = true := hs.resolve_left (absurd hseg ·)
    rw [scanStepStart_of_sense h hseg, takeSample_of_sampled sampled]
  | drive rows => exact scanStepStart_of_drive h hseg

/-- Row `i` of a drive segment carries its own level (R131). -/
theorem getLsbD_rowLevels (s : State) (c : Fin 6) (i : Fin 8) : (s.rowLevels c).getLsbD i = s.rowLevel c i := by
  unfold State.rowLevels
  rw [BitVec.getLsbD_ofBoolListLE]
  fin_cases i <;> rfl

/-- The even row of a position drives its CLEAR-DOWN, and the odd row its LAMP (R128, R131). -/
theorem rowLevel_of_column {p : Position} {c : Fin 6} (h : p.val / 4 = c.val) :
    (s.rowLevels c).getLsbD (2 * (p.val % 4)) = s.clearDown p ∧
      (s.rowLevels c).getLsbD (2 * (p.val % 4) + 1) = s.lampLit p := by
  have even := getLsbD_rowLevels s c ⟨2 * (p.val % 4), by omega⟩
  have odd := getLsbD_rowLevels s c ⟨2 * (p.val % 4) + 1, by omega⟩
  dsimp only at even odd
  have evenAt : positionAt c ⟨2 * (p.val % 4) / 2, by omega⟩ = p := Fin.ext (by simp only [positionAt]; omega)
  have oddAt : positionAt c ⟨(2 * (p.val % 4) + 1) / 2, by omega⟩ = p := Fin.ext (by simp only [positionAt]; omega)
  rw [even, odd]
  unfold State.rowLevel
  dsimp only
  rw [evenAt, oddAt, if_pos (by omega), if_neg (by omega)]
  exact ⟨rfl, rfl⟩

theorem clearDown_iff {p : Position} : s.clearDown p = true ↔
    ((s.booth p).state = .clearing ∨ ((s.booth p).state = .fault ∧ (s.booth p).callUp = true)) ∧
      ∃ n, (s.booth p).timer = some (.assert n) := by
  unfold State.clearDown
  rw [Bool.and_eq_true]
  refine and_congr (by simp [Booth.clearingDown]) ?_
  cases (s.booth p).timer with
  | none => simp
  | some x => cases x <;> simp [ClearDown.asserting]

theorem lampLit_iff {p : Position} : s.lampLit p = true ↔ (s.booth p).mode = .charged ∧
    (((s.booth p).state = .grace ∧ s.scan.flash = true) ∨
      ((s.booth p).state = .call ∧ ∃ c, s.credit p = some c ∧ c ≤ s.settings.lowCredit)) := by
  unfold State.lampLit State.lamp
  cases (s.booth p).mode with
  | free => simp
  | charged =>
    cases (s.booth p).state with
    | grace => simp
    | call =>
      cases s.credit p with
      | none => simp
      | some c => by_cases h : c ≤ s.settings.lowCredit <;> simp [h]
    | vacant | card | clearing | opened | fault => simp

/-- Settles O50: the step, the two segments, and the rows of a drive segment. -/
theorem scanStepsAndDriveSegments : Obligations.ScanStepsAndDriveSegments := by
  intro s hrun
  refine ⟨fun hoff hs => ?_, fun hsense hs => ?_, fun hsense hs => ?_, fun hsense => ?_⟩
  · rw [scanStepStart_of_sampled hrun hoff hs, nextColumn_eq]
    rfl
  · obtain ⟨x, t, hx, htake, htrun, htsense, hts, hcolumn⟩ := takeSample_sampled hrun hsense hs
    refine ⟨x, t, hx, hts, ?_, ?_⟩
    · rw [scanStepStart_of_sense hrun hsense, scanStepStart_of_sense htrun htsense, takeSample_of_sampled hts, htake, hcolumn]
    · rw [driveSegment_of_sense hrun hsense, driveSegment_of_sense htrun htsense, takeSample_of_sampled hts, htake]
  · refine ⟨s.rowLevels s.scan.column, ?_, fun p hp => ?_⟩
    · rw [driveSegment_of_sense hrun hsense, takeSample_of_sampled hs]
      rfl
    · obtain ⟨even, odd⟩ := rowLevel_of_column (s := s) hp
      rw [even, odd]
      exact ⟨clearDown_iff, lampLit_iff⟩
  · exact congrArg Host.Outcome.next ((State.live_of_running hrun _).trans (if_neg hsense))

/-! ### The debounce records through a sample -/

/-- The samples of one booth write the two debounce records of its position (R132). -/
theorem sampleBooth_records (rows : Byte) (s : State) (p : Position) : (s.sampleBooth rows p).scan = { s.scan with
    loop := s.scan.loop.set p.val ((s.loop p).sample s.settings.debounceCount (rows.getLsbD (evenRow p))).1 p.isLt,
    answer := s.scan.answer.set p.val
      ((s.answerLine p).sample s.settings.debounceCount (rows.getLsbD (oddRow p))).1 p.isLt } := by
  have loop := sampleLoop_rest s p (rows.getLsbD (evenRow p))
  have answer := sampleAnswer_rest (s.sampleLoop p (rows.getLsbD (evenRow p))) p (rows.getLsbD (oddRow p))
  have settings := loop.settings
  unfold State.sampleBooth
  rw [answer.scan]
  simp only [State.answerLine, loop.scan, settings]

/-- The samples of distinct booths write the debounce records of those booths, each once (R130, R132). -/
theorem foldl_sampleBooth_records (rows : Byte) (p : Position) {k : List Position} (hk : k.Nodup) (s : State) :
    (k.foldl (State.sampleBooth rows) s).loop p =
        (if p ∈ k then ((s.loop p).sample s.settings.debounceCount (rows.getLsbD (evenRow p))).1 else s.loop p) ∧
      (k.foldl (State.sampleBooth rows) s).answerLine p =
        if p ∈ k then ((s.answerLine p).sample s.settings.debounceCount (rows.getLsbD (oddRow p))).1
        else s.answerLine p := by
  induction k generalizing s with
  | nil => exact ⟨rfl, rfl⟩
  | cons q k ih =>
    obtain ⟨hq, hk⟩ := List.nodup_cons.mp hk
    obtain ⟨loop, answer⟩ := ih hk (s.sampleBooth rows q)
    have settings : (s.sampleBooth rows q).settings = s.settings := (sampleBooth_rest rows s q).settings
    rw [List.foldl_cons, loop, answer, settings]
    simp only [State.loop, State.answerLine, sampleBooth_records, Fin.getElem_fin, Vector.getElem_set]
    by_cases hp : q = p
    · subst hp
      simp [hq]
    · have hne : q.val ≠ p.val := fun h => hp (Fin.ext h)
      simp [hne, Ne.symm hp]

theorem mem_columnPositions {p : Position} {c : Fin 6} : p ∈ columnPositions c ↔ p.val / 4 = c.val := by
  simp only [columnPositions, List.map_cons, List.map_nil, List.mem_cons, List.not_mem_nil, or_false, Fin.ext_iff,
    positionAt]
  have := p.isLt
  simp only [Fin.isValue, Fin.val_zero, Fin.val_one, Fin.val_two]
  omega

theorem columnPositions_nodup (c : Fin 6) : (columnPositions c).Nodup := by
  revert c
  decide

theorem Debounce.runCount_sample_lt {d : Nat} (hd : 1 ≤ d) (x : Debounce) (level : Bool) :
    (x.sample d level).1.runCount < d := by
  unfold Debounce.sample
  dsimp only
  split
  · exact hd
  · generalize (if 0 < x.runCount ∧ level = x.runLevel then x.runCount + 1 else 1) = count
    split
    · exact hd
    next h => exact Nat.lt_of_not_le h

/-- The three steps of R132, a run's level being its record's. -/
theorem Debounce.sample_eq (d : Nat) (x : Debounce) (level : Bool) : (x.sample d level).1 =
    if x.level = some level then { x with runCount := 0 }
    else
      let y : Debounce := if 0 < x.runCount ∧ level = x.runLevel then { x with runCount := x.runCount + 1 }
        else { x with runLevel := level, runCount := 1 }
      if d ≤ y.runCount then { y with level := some y.runLevel, runCount := 0 } else y := by
  unfold Debounce.sample
  dsimp only
  split
  · rfl
  · by_cases hrun : 0 < x.runCount ∧ level = x.runLevel
    · obtain ⟨hpos, rfl⟩ := hrun
      simp only [hpos, and_self, if_true]
      split <;> rfl
    · simp only [hrun, if_false]
      split <;> rfl

/-- Settles O51: the records of the column, and what of the scanner moves. -/
theorem sampleMovesTheDebounceRecords : Obligations.SampleMovesTheDebounceRecords := by
  intro s x hrun hsense hs
  have scan := sampleColumn_scan s x
  refine ⟨_, senseSample_of_unsampled hrun hsense hs x, scan.sampled, scan.column, scan.segment.trans hsense, scan.elapsed,
    scan.flash, fun p => ?_⟩
  obtain ⟨loop, answer⟩ := foldl_sampleBooth_records (rowsRead x) p (columnPositions_nodup s.scan.column)
    { s with scan := s.scan.endSense }
  have loopAt : (s.sampleColumn x).loop p = _ := loop
  have answerAt : (s.sampleColumn x).answerLine p = _ := answer
  have row : ∀ i, (rowsRead x).getLsbD i = (x.driven.getLsbD i && x.level.getLsbD i) := fun i => BitVec.getLsbD_and ..
  rw [loopAt, answerAt]
  refine ⟨fun hp => ?_, fun hp => ?_⟩
  · rw [if_pos (mem_columnPositions.mpr hp), if_pos (mem_columnPositions.mpr hp)]
    refine ⟨?_, ?_, fun hd => ⟨Debounce.runCount_sample_lt hd .., Debounce.runCount_sample_lt hd ..⟩⟩
    · rw [Debounce.sample_eq, row]
      rfl
    · rw [Debounce.sample_eq, row]
      rfl
  · rw [if_neg (mt mem_columnPositions.mp hp), if_neg (mt mem_columnPositions.mp hp)]
    exact ⟨rfl, rfl⟩

end Sys2Proof.Machine

/-! ## Requests from the row controller (R46 to R51, R106 to R116) -/

namespace Sys2Proof.Machine

variable {s : State} {p : Position}

/-- A request acts on the state that has reached its byte time (R90). -/
theorem arrive_of_taking (h : s.taking) (p : Position) (f : State → State) :
    s.arrive p f = f (s.reach (requestIn p)) := State.inFrame_of_taking h _

/-- A request's kind, word, value and complement are joined from the left (R175). -/
theorem requestBytes_append (kind : BitVec 4) (a : WordAddr) (v w : Word) :
    requestBytes kind a (v ++ w) = kind ++ a ++ v ++ w := by
  have regrouped : kind ++ a ++ v ++ w = (kind ++ a) ++ (v ++ w) := BitVec.append_assoc
  exact regrouped.symm

/-- Settles O8: the three requests that no check looks at. -/
theorem readLockedReadAndUnlockAreNeverRefused : Obligations.ReadLockedReadAndUnlockAreNeverRefused := by
  intro s p a rest h
  refine ⟨?_, ?_, ?_⟩
  · exact congrArg Host.Outcome.next ((arrive_of_taking h p _).trans (send_reach ..))
  · exact congrArg Host.Outcome.next ((arrive_of_taking h p _).trans (send_setSlot ..))
  · exact congrArg Host.Outcome.next ((arrive_of_taking h p _).trans (send_setSlot ..))

/-! ### Writes -/

/-- The booth after a write to word 6, or to another word, has passed (R111). -/
def Booth.afterWrite (b : Booth) (a : WordAddr) (band : Band) : Booth := if a = 6 then { b with band := some band } else b

/-- What a row-controller write leaves behind, by its check (R107, R111, R112). -/
structure Vetted (s : State) (p : Position) (v : Word) (passed : State) (check : Option RefuseCause) (t : State) :
    Prop where
  inFlight : (s.slot p).inFlight.isSome = true →
    t = s.requested p (s.booth p) (s.slot p) { origin := .row, sent := .null, treatment := .suppressed } 0
  killed : ∀ cause, (s.slot p).inFlight.isSome = false → check = some cause →
    t = (s.requested p (s.booth p) (s.slot p) { origin := .row, sent := .null, treatment := .killed cause v.toNat } 0).place
      (.refusedWrite p cause v.toNat)
  passed : (s.slot p).inFlight.isSome = false → check = none → t = passed

theorem passWrite_reach (s : State) (p : Position) (a : WordAddr) (v c : Word) (x : Treatment) :
    (s.reach (requestIn p)).passWrite p a v c x =
      s.requested p ((s.booth p).afterWrite a (s.bandOf v)) (s.slot p)
        { origin := .row, sent := .write a v.toNat, treatment := x } ((2 : BitVec 4) ++ a ++ v ++ c) := by
  unfold State.passWrite Booth.afterWrite
  dsimp only
  rw [requestBytes_append]
  split
  · exact send_setBooth ..
  · exact send_reach ..

theorem vetted_reach (s : State) (p : Position) (check : Option RefuseCause) (a : WordAddr) (v c : Word) (x : Treatment) :
    Vetted s p v (s.requested p ((s.booth p).afterWrite a (s.bandOf v)) (s.slot p)
      { origin := .row, sent := .write a v.toNat, treatment := x } ((2 : BitVec 4) ++ a ++ v ++ c)) check
      ((s.reach (requestIn p)).vetted p check a v c x) where
  inFlight h := (if_pos h).trans (send_reach ..)
  killed cause h hc := by
    refine (if_neg (Bool.eq_false_iff.mp h)).trans ?_
    rw [hc]
    exact kill_reach ..
  passed h hc := by
    refine (if_neg (Bool.eq_false_iff.mp h)).trans ?_
    rw [hc]
    exact passWrite_reach ..

theorem write_of_taking (h : s.taking) (p : Position) (a : WordAddr) (v w : Word) :
    ∃ t, exec (.write p a v w) s = .next t ∧
      Vetted s p v (s.requested p ((s.booth p).afterWrite a (s.bandOf v)) (s.slot p)
        { origin := .row, sent := .write a v.toNat, treatment := .passed } ((2 : BitVec 4) ++ a ++ v ++ w))
        (s.vetWrite p a v.toNat) t :=
  ⟨_, congrArg Host.Outcome.next (arrive_of_taking h p _), vetted_reach s p (s.vetWrite p a v.toNat) a v w .passed⟩

theorem protectedWrite_of_taking (h : s.taking) (p : Position) (a : WordAddr) (v w : Word) :
    ∃ t, exec (.protectedWrite p a v w) s = .next t ∧
      Vetted s p v (s.requested p ((s.booth p).afterWrite a (s.bandOf v)) (s.slot p)
        { origin := .row, sent := .write a v.toNat, treatment := .converted } ((2 : BitVec 4) ++ a ++ v ++ (0 : Word)))
        (s.vetProtected p a v.toNat w.toNat) t :=
  ⟨_, congrArg Host.Outcome.next (arrive_of_taking h p _),
    vetted_reach s p (s.vetProtected p a v.toNat w.toNat) a v 0 .converted⟩

/-- Settles O10: the checks of a plain WRITE, the first that fails deciding. -/
theorem writeIsVettedByItsWord : Obligations.WriteIsVettedByItsWord := by
  intro s p a v w htaking
  obtain ⟨t, hexec, vetted⟩ := write_of_taking htaking p a v w
  rw [hexec]
  dsimp only
  refine congrArg Host.Outcome.next ?_
  by_cases hflight : (s.slot p).inFlight.isSome = true
  · rw [if_pos hflight]
    exact vetted.inFlight hflight
  rw [if_neg hflight]
  have killed := fun cause => vetted.killed cause (Bool.eq_false_iff.mpr hflight)
  have passed := vetted.passed (Bool.eq_false_iff.mpr hflight)
  by_cases hissuer : a.toNat < 4
  · rw [if_pos hissuer]
    exact killed .issuer (by simp [State.vetWrite, hissuer])
  rw [if_neg hissuer]
  by_cases hword : a = 4
  · subst hword
    have check : s.vetWrite p 4 v.toNat = s.vetBalance p v.toNat := rfl
    rw [check] at killed passed
    rw [if_pos rfl]
    unfold State.vetBalance at killed passed
    by_cases hfree : (s.booth p).mode = .free
    · rw [if_pos hfree]
      exact killed .free (if_pos hfree)
    rw [if_neg hfree]
    simp only [hfree, if_false] at killed passed
    cases hknown : (s.booth p).known with
    | none => exact killed .unknown (by rw [hknown])
    | some n =>
      simp only [hknown] at killed passed
      dsimp only
      by_cases hraise : n < v.toNat
      · rw [if_pos hraise]
        exact killed .raise (if_pos hraise)
      rw [if_neg hraise]
      simp only [hraise, if_false] at killed passed
      by_cases hexcess : (s.booth p).owed + s.settings.rowAllowance < n - v.toNat
      · rw [if_pos hexcess]
        exact killed .excess (if_pos hexcess)
      · rw [if_neg hexcess]
        exact passed (if_neg hexcess)
  · rw [if_neg hword]
    have through := passed ((if_neg hissuer).trans (if_neg hword))
    unfold Booth.afterWrite at through
    by_cases hband : a = 6
    · rw [if_pos hband] at through ⊢
      exact through
    · rw [if_neg hband] at through ⊢
      exact through

theorem engaged_iff {b : Booth} : b.engaged = true ↔
    b.state = .call ∨ b.state = .grace ∨ b.state = .clearing ∨ b.state = .opened ∨ 0 < b.owed ∨ b.pendingRes.isSome = true := by
  simp [Booth.engaged, Option.isSome_iff_ne_none]

/-- Settles O11: the checks of a PROTECTED WRITE, the first that fails deciding. -/
theorem protectedWriteIsVetted : Obligations.ProtectedWriteIsVetted := by
  intro s p a v w htaking
  obtain ⟨t, hexec, vetted⟩ := protectedWrite_of_taking htaking p a v w
  rw [hexec]
  dsimp only
  refine congrArg Host.Outcome.next ?_
  by_cases hflight : (s.slot p).inFlight.isSome = true
  · rw [if_pos hflight]
    exact vetted.inFlight hflight
  rw [if_neg hflight]
  have killed := fun cause => vetted.killed cause (Bool.eq_false_iff.mpr hflight)
  have passed := vetted.passed (Bool.eq_false_iff.mpr hflight)
  unfold State.vetProtected at killed passed
  by_cases hcomplement : w.toNat ≠ 65535 - v.toNat
  · rw [if_pos hcomplement]
    exact killed .complement (if_pos hcomplement)
  rw [if_neg hcomplement] at killed passed ⊢
  by_cases hissuer : a.toNat < 4
  · rw [if_pos hissuer]
    exact killed .issuer (if_pos hissuer)
  rw [if_neg hissuer] at killed passed ⊢
  by_cases hword : a = 4
  · rw [if_pos hword]
    have other : (s.booth p).afterWrite a (s.bandOf v) = s.booth p := if_neg (by rw [hword]; decide)
    rw [other] at passed
    by_cases hfault : (s.booth p).state = .fault
    · rw [if_pos hfault]
      exact killed .unknown (if_pos ⟨hword, hfault⟩)
    rw [if_neg hfault]
    rw [if_neg (hfault ·.2)] at killed passed
    by_cases hengaged : (s.booth p).engaged = true
    · rw [if_pos (engaged_iff.mp hengaged)]
      exact killed .engaged (if_pos ⟨hword, hengaged⟩)
    · rw [if_neg (mt engaged_iff.mpr hengaged)]
      exact passed (if_neg (hengaged ·.2))
  · rw [if_neg hword]
    have through := passed (by rw [if_neg (hword ·.1), if_neg (hword ·.1)])
    unfold Booth.afterWrite at through
    by_cases hband : a = 6
    · rw [if_pos hband] at through ⊢
      exact through
    · rw [if_neg hband] at through ⊢
      exact through

/-! ### NULL -/

/-- The bytes of an own request (R119, R175). -/
theorem ownBytes_write (v : Nat) : OwnRequest.bytes (.write v) = (0x24 : Byte) ++ BitVec.ofNat 16 v ++ (0 : Word) :=
  requestBytes_append 2 4 _ _

/-- An own request that is not held yet is held from its first slot (R119, log entry 9). -/
theorem insert_reach (s : State) (p : Position) (q : OwnRequest) :
    (s.reach (requestIn p)).insert p q true =
      s.requested p (s.booth p) { s.slot p with held := some { request := q, tries := 0 } }
        { origin := .own, sent := q.sent, treatment := .inserted true } q.bytes := send_setSlot ..

/-- The first need becomes the own request of a NULL at an eligible position (R48, R119). -/
theorem decideNull_reach (s : State) (p : Position) : (s.reach (requestIn p)).decideNull p =
    if s.eligible p then
      match (s.slot p).held, s.need p with
      | some h, _ => s.requested p (s.booth p) (s.slot p)
          { origin := .own, sent := h.request.sent, treatment := .inserted false } h.request.bytes
      | none, some q => s.requested p (s.booth p) { s.slot p with held := some { request := q, tries := 0 } }
          { origin := .own, sent := q.sent, treatment := .inserted true } q.bytes
      | none, none => s.requested p (s.booth p) (s.slot p) { origin := .row, sent := .null, treatment := .passed } 0
    else s.requested p (s.booth p) (s.slot p) { origin := .row, sent := .null, treatment := .passed } 0 := by
  have eligible : (s.reach (requestIn p)).eligible p = s.eligible p := rfl
  have slot : (s.reach (requestIn p)).slot p = s.slot p := rfl
  have need : (s.reach (requestIn p)).need p = s.need p := rfl
  have passed : (s.reach (requestIn p)).sendNull p .passed =
    s.requested p (s.booth p) (s.slot p) { origin := .row, sent := .null, treatment := .passed } 0 := send_reach ..
  unfold State.decideNull
  rw [eligible, slot, need, passed]
  split
  · cases (s.slot p).held with
    | some h => exact send_reach ..
    | none =>
      cases s.need p with
      | some q => exact insert_reach ..
      | none => rfl
  · rfl

/-- Settles O12: eligibility, the held request, and the order of needs. -/
theorem nullCarriesTheFirstNeed : Obligations.NullCarriesTheFirstNeed := by
  intro s p f htaking hframe
  have sent : exec (.null p) s = .next ((s.reach (requestIn p)).decideNull p) :=
    congrArg Host.Outcome.next (arrive_of_taking htaking p _)
  rw [sent, decideNull_reach]
  dsimp only
  refine congrArg Host.Outcome.next ?_
  have parity : parityAllows s.settings.parity s.port.frameNumber =
      (match s.settings.parity with
      | .any => true
      | .even => decide (f.toNat % 2 = 0)
      | .odd => decide (f.toNat % 2 = 1)) := by
    rw [hframe]
    cases s.settings.parity <;> rfl
  refine if_congr (by rw [State.eligible, parity, decide_eq_true_eq] <;> exact Iff.rfl) ?_ rfl
  have bytes : ∀ q : OwnRequest, q.bytes = (match q with
      | .read a => (1 : BitVec 4) ++ a ++ (0 : BitVec 32)
      | .write v => (0x24 : Byte) ++ BitVec.ofNat 16 v ++ (0 : Word)) := by
    intro q
    cases q with
    | read a => rfl
    | write v => exact ownBytes_write v
  cases (s.slot p).held with
  | some h =>
    dsimp only
    rw [bytes] <;> rfl
  | none =>
    dsimp only
    unfold State.need State.debitDue debitValue
    dsimp only
    by_cases hhigh : (s.booth p).serialHigh = none
    · rw [if_pos hhigh, if_pos hhigh]
      rfl
    rw [if_neg hhigh, if_neg hhigh]
    by_cases hlow : (s.booth p).serialLow = none
    · rw [if_pos hlow, if_pos hlow]
      rfl
    rw [if_neg hlow, if_neg hlow]
    cases (s.booth p).known with
    | none => rfl
    | some n =>
      dsimp only
      by_cases hdue : 0 < (s.booth p).owed ∧ 0 < n ∧ (s.booth p).pendingRes = none ∧
          (s.settings.insertionThreshold ≤ (s.booth p).owed ∨ (s.booth p).state = .card ∨ (s.booth p).state = .grace ∨
            (s.booth p).state = .clearing ∨ n ≤ (s.booth p).owed)
      · rw [if_pos hdue, if_pos (decide_eq_true hdue)]
        dsimp only
        rw [bytes]
      · rw [if_neg hdue, if_neg (by rw [decide_eq_true_eq]; exact hdue)]

end Sys2Proof.Machine

/-! ## Table words, headers and the period (R26 to R31, R154 to R161) -/

namespace Sys2Proof.Machine

variable {s : State} {p : Position}

/-! ### The commands of a running part as states -/

theorem restart_of_running (h : s.running) : exec .restart s = .next s.restartReports :=
  congrArg Host.Outcome.next (State.live_of_running h _)

theorem tariff_of_running (h : s.running) (band period charge : Byte) (rate : Word) :
    exec (.tariff band period charge rate) s = .next (s.takeTariff band period charge rate) :=
  congrArg Host.Outcome.next (State.live_of_running h fun s => s.takeTariff band period charge rate)

theorem schedule_of_running (h : s.running) (slot : Byte) (minute : Word) (period : Byte) :
    exec (.schedule slot minute period) s = .next (s.takeSchedule slot minute period) :=
  congrArg Host.Outcome.next (State.live_of_running h fun s => s.takeSchedule slot minute period)

theorem setting_of_running (h : s.running) (number : Byte) (value : Word) :
    exec (.setting number value) s = .next (s.takeSetting number value) :=
  congrArg Host.Outcome.next (State.live_of_running h fun s => s.takeSetting number value)

theorem position_of_running (h : s.running) (number mode : Byte) :
    exec (.position number mode) s = .next (s.takePosition number mode) :=
  congrArg Host.Outcome.next (State.live_of_running h fun s => s.takePosition number mode)

theorem frameStart_of_running (h : s.running) (cut : Nat) : exec (.frameStart cut) s = .next (s.cutFrame cut).beginFrame :=
  congrArg Host.Outcome.next (State.live_of_running h fun s => (s.cutFrame cut).beginFrame)

/-- RESTART closes every lock (R118, R161). -/
theorem restartReports_eq (s : State) : s.restartReports = { s with
    reports := [], lost := 0, slots := s.slots.map fun c => { c with lock := 0 },
    port := { s.port with recordHeld := false } } :=
  forAll_onSlot { s with reports := [], lost := 0, port := { s.port with recordHeld := false } } _

theorem selectFin_of_lt {n v : Nat} (h : v < n) : selectFin n v = some ⟨v, h⟩ := dif_pos h

theorem selectFin_of_le {n v : Nat} (h : n ≤ v) : selectFin n v = none := dif_neg (Nat.not_lt.mpr h)

theorem clamp_zero (hi v : Nat) : clamp 0 hi v = min v hi := (Nat.zero_max _).trans (Nat.min_comm ..)

/-- Settles O40: the selecting fields of TARIFF and SCHEDULE in range and out of it. -/
theorem restartTariffAndScheduleAct : Obligations.RestartTariffAndScheduleAct := by
  intro s band period charge slot rate minute hrun
  rw [restart_of_running hrun, tariff_of_running hrun, schedule_of_running hrun]
  refine ⟨congrArg Host.Outcome.next (restartReports_eq s), fun hb hp => congrArg Host.Outcome.next ?_,
    fun hout => congrArg Host.Outcome.next ?_, fun hs => congrArg Host.Outcome.next ?_,
    fun hout => congrArg Host.Outcome.next ?_⟩
  · unfold State.takeTariff tariffEntry
    rw [selectFin_of_lt hb, selectFin_of_lt hp, clamp_zero, clamp_zero]
    rfl
  · unfold State.takeTariff
    rcases hout with hb | hp
    · rw [selectFin_of_le hb]
    · rw [selectFin_of_le hp]
      cases selectFin 16 band.toNat <;> rfl
  · unfold State.takeSchedule
    rw [selectFin_of_lt hs]
    rfl
  · unfold State.takeSchedule
    rw [selectFin_of_le hout]

/-! ### Settings -/

/-- One setting is set, and the others stay (R158). -/
theorem Settings.set_eq (t : Settings) (number : Byte) (value : Word) : t.set number value =
    { insertionThreshold := if number.toNat = 0 then max 1 (min 15 value.toNat) else t.insertionThreshold,
      rowAllowance := if number.toNat = 1 then min 15 value.toNat else t.rowAllowance,
      lowCredit := if number.toNat = 2 then min 255 value.toNat else t.lowCredit,
      graceTime := if number.toNat = 3 then min 60 value.toNat else t.graceTime,
      lockLimit := if number.toNat = 4 then max 2 (min 15 value.toNat) else t.lockLimit,
      retention := if number.toNat = 5 then max 1 (min 255 value.toNat) else t.retention,
      parity := if number.toNat = 6 then
          (if value.toNat = 0 then .any else if value.toNat = 1 then .even else .odd) else t.parity,
      debounceCount := if number.toNat = 7 then max 2 (min 8 value.toNat) else t.debounceCount,
      scanStep := if number.toNat = 8 then max 1 (min 64 value.toNat) else t.scanStep,
      clearDownHold := if number.toNat = 9 then max 1 (min 20 value.toNat) else t.clearDownHold,
      alertThreshold := if number.toNat = 10 then max 1 (min 32 value.toNat) else t.alertThreshold,
      unknownBand := if number.toNat = 11 then (if h : value.toNat < 16 then ⟨value.toNat, h⟩ else 15)
        else t.unknownBand } := by
  have parity : clampParity value = if value.toNat = 0 then .any else if value.toNat = 1 then .even else .odd := by
    unfold clampParity
    split
    next h => rw [if_pos h]
    next h => rw [h]; rfl
    next h0 h1 => rw [if_neg h0, if_neg h1]
  have zero : ∀ hi, clamp 0 hi value.toNat = min hi value.toNat := fun hi => Nat.zero_max _
  unfold Settings.set
  rw [parity, zero, zero, zero]
  unfold clamp clampBand
  generalize number.toNat = n
  split <;> simp_all

/-- Settles O41: the twelve settings, and the alert line at each threshold. -/
theorem settingIsClampedToItsRange : Obligations.SettingIsClampedToItsRange := by
  intro s number value
  refine ⟨fun h => by simp [State.alert, h], fun hrun => ?_⟩
  have alert : ∀ t : State, t.resetAsserted = false → (t.alert = true ↔ t.settings.alertThreshold ≤ t.reports.length) := by
    intro t ht
    simp [State.alert, ht]
  refine ⟨?_, alert s hrun, alert _ hrun⟩
  rw [setting_of_running hrun, State.takeSetting, Settings.set_eq]

/-! ### Modes -/

theorem modeOf_eq (mode : Byte) : modeOf mode = if mode = 0 then .charged else .free :=
  if_congr (by rw [← BitVec.toNat_inj]; rfl) rfl rfl

theorem Booth.deliverMode_eq (b : Booth) (m : Mode) : b.deliverMode m =
    if b.state = .vacant then
      { b with mode := m, pendingMode := none, resumed := if b.mode = .free ∧ m = .charged then .no else b.resumed }
    else { b with pendingMode := some m } := by
  unfold Booth.deliverMode Booth.applyMode
  split
  · split
    next h => rw [h.2]
    next => rfl
  · rfl

/-- Settles O42: the mode delivered at the position named, if there is one. -/
theorem positionWordDeliversTheMode : Obligations.PositionWordDeliversTheMode := by
  intro s number mode hrun
  rw [position_of_running hrun]
  refine ⟨fun p hp => congrArg Host.Outcome.next ?_, fun hout => congrArg Host.Outcome.next ?_⟩
  · unfold State.takePosition
    have selected : selectFin 24 number.toNat = some p := by
      rw [hp]
      exact selectFin_of_lt p.isLt
    rw [selected]
    dsimp only
    rw [State.onBooth_eq, Booth.deliverMode_eq, modeOf_eq]
    exact (State.setSlot_slot _ p).symm
  · unfold State.takePosition
    rw [selectFin_of_le hout]

/-! ### Frames begin, headers arrive -/

/-- Settles O32: a frame that begins where none is in progress. -/
theorem frameStartBeginsAFrame : Obligations.FrameStartBeginsAFrame := by
  intro s cut
  refine ⟨fun hrun hidle => ?_, fun hreset => ?_⟩
  · have uncut : s.cutFrame cut = s := if_neg (Bool.eq_false_iff.mp hidle)
    rw [frameStart_of_running hrun, uncut]
    rfl
  · exact congrArg Host.Outcome.next (State.live_of_asserted hreset _)

/-- A table word acts as the command it spells (R154, R176). -/
theorem takeTableWord_eq (h : s.running) (table : TableBytes) : Host.Outcome.next (s.takeTableWord table) =
    ((decodeTable table).map fun c => exec c s).getD (.next s) := by
  unfold State.takeTableWord decodeTable
  dsimp only
  split_ifs
  · exact (tariff_of_running h ..).symm
  · exact (schedule_of_running h ..).symm
  · exact (setting_of_running h ..).symm
  · exact (position_of_running h ..).symm
  · rfl

/-- The fields of a header act one after the other (R26, R96, R154, R161). -/
theorem headerArrival_of_taking (h : s.taking) (frame : Byte) (minute : Word) (flags : Byte) (table : TableBytes) :
    ∃ u : State, u = { s with
      minute := if minute.toNat < 1440 then some minute.toNat else s.minute,
      reports := if flags.getLsbD 0 then [] else s.reports,
      lost := if flags.getLsbD 0 then 0 else s.lost,
      slots := if flags.getLsbD 0 then s.slots.map (fun c => { c with lock := 0 }) else s.slots,
      port := { s.port with byteTime := max s.port.byteTime 10, frameNumber := some frame, upHeader := some frame,
                            downHeader := some (frame ++ minute ++ flags ++ table),
                            recordHeld := if flags.getLsbD 0 then false else s.port.recordHeld } } ∧
    exec (.headerArrival frame minute flags table) s =
      .next (if flags.getLsbD 1 then u.takeTableWord table else u) := by
  refine ⟨_, rfl, congrArg Host.Outcome.next ((State.inFrame_of_taking h _).trans ?_)⟩
  have timed : ∀ t : State, t.takeMinute minute =
      { t with minute := if minute.toNat < 1440 then some minute.toNat else t.minute } := by
    intro t
    unfold State.takeMinute
    split <;> rfl
  have restarted : ∀ t : State, (if restartFlag flags then t.restartReports else t) = { t with
      reports := if flags.getLsbD 0 then [] else t.reports, lost := if flags.getLsbD 0 then 0 else t.lost,
      slots := if flags.getLsbD 0 then t.slots.map (fun c => { c with lock := 0 }) else t.slots,
      port := { t.port with recordHeld := if flags.getLsbD 0 then false else t.port.recordHeld } } := by
    intro t
    unfold restartFlag
    cases flags.getLsbD 0
    · rfl
    · exact restartReports_eq t
  dsimp only
  rw [timed, restarted]
  rfl

/-- Settles O34: the fields of the header, then the command of its table word. -/
theorem headerFieldsAreTaken : Obligations.HeaderFieldsAreTaken := by
  intro s frame minute flags table htaking
  obtain ⟨u, hu, hexec⟩ := headerArrival_of_taking htaking frame minute flags table
  have running : u.running := by
    rw [hu]
    exact htaking.1
  rw [hexec]
  dsimp only
  rw [← hu]
  by_cases hword : flags.getLsbD 1 = true
  · rw [if_pos hword, if_pos hword, takeTableWord_eq running]
    have kind : tableByte table 0 = table.extractLsb' 40 8 := rfl
    unfold decodeTable
    dsimp only
    rw [kind]
    generalize table.extractLsb' 40 8 = kind
    by_cases h1 : kind = 1
    · subst h1
      rfl
    by_cases h2 : kind = 2
    · subst h2
      rfl
    by_cases h3 : kind = 3
    · subst h3
      rfl
    by_cases h4 : kind = 4
    · subst h4
      rfl
    rw [if_neg h1, if_neg h2, if_neg h3, if_neg h4]
    split
    · exact absurd rfl h1
    · exact absurd rfl h2
    · exact absurd rfl h3
    · exact absurd rfl h4
    · rfl
  · rw [if_neg hword, if_neg hword]

end Sys2Proof.Machine

/-! ## The current period, countdown ends, the trailer and the bytes of the highway (R13, R16, R31, R103, R173 to R177) -/

namespace Sys2Proof.Machine

variable {s : State} {p : Position}

/-! ### The current period -/

theorem laterPoint_foldl_of_lt {x : SwitchPoint} {l : List SwitchPoint} (h : ∀ y ∈ l, y.minute < x.minute) :
    l.foldl laterPoint (some x) = some x := by
  induction l with
  | nil => rfl
  | cons y l ih =>
    obtain ⟨hy, hl⟩ := List.forall_mem_cons.mp h
    have stays : laterPoint (some x) y = some x := if_neg (Nat.not_le.mpr hy)
    rw [List.foldl_cons, stays, ih hl]

/-- The latest of the points before `x` is one of them. -/
theorem laterPoint_foldl_mem {l : List SwitchPoint} {best y : Option SwitchPoint} (h : l.foldl laterPoint best = y) :
    y = best ∨ ∃ z ∈ l, y = some z := by
  induction l generalizing best with
  | nil => exact .inl h.symm
  | cons z l ih =>
    rcases ih h with hy | ⟨w, hw, hy⟩
    · have one : laterPoint best z = best ∨ laterPoint best z = some z := by
        unfold laterPoint
        split
        · exact .inr rfl
        · split
          · exact .inr rfl
          · exact .inl rfl
      rcases one with hb | hz
      · exact .inl (hy.trans hb)
      · exact .inr ⟨z, List.mem_cons_self, hy.trans hz⟩
    · exact .inr ⟨w, List.mem_cons_of_mem _ hw, hy⟩

/-- A point is the latest where none before it is later and all after it are earlier (R31). -/
theorem latestPoint_of_split {before after : List SwitchPoint} {x : SwitchPoint}
    (hb : ∀ y ∈ before, y.minute ≤ x.minute) (ha : ∀ y ∈ after, y.minute < x.minute) :
    latestPoint (before ++ x :: after) = some x := by
  unfold latestPoint
  rw [List.foldl_append, List.foldl_cons]
  have taken : laterPoint (before.foldl laterPoint none) x = some x := by
    rcases laterPoint_foldl_mem (l := before) (best := none) rfl with hnone | ⟨z, hz, hsome⟩
    · rw [hnone]
      rfl
    · rw [hsome]
      exact if_pos (hb z hz)
  rw [taken, laterPoint_foldl_of_lt ha]

/-- The set slots before and after slot `n` (R30). -/
theorem setPoints_split {n : Fin 8} {x : SwitchPoint} (h : s.schedule[n] = some x) :
    ∃ before after, s.setPoints = before ++ x :: after ∧
      (∀ y ∈ before, ∃ k : Fin 8, s.schedule[k] = some y ∧ k < n) ∧
      (∀ y ∈ after, ∃ k : Fin 8, s.schedule[k] = some y ∧ n < k) := by
  have len : s.schedule.toList.length = 8 := by simp
  have hn : n.val < s.schedule.toList.length := by rw [len]; exact n.isLt
  have at_n : s.schedule.toList[n.val] = some x := by simpa using h
  have whole : s.schedule.toList = s.schedule.toList.take n.val ++ some x :: s.schedule.toList.drop (n.val + 1) := by
    rw [← at_n, ← List.drop_eq_getElem_cons hn, List.take_append_drop]
  refine ⟨(s.schedule.toList.take n.val).filterMap id, (s.schedule.toList.drop (n.val + 1)).filterMap id, ?_,
    fun y hy => ?_, fun y hy => ?_⟩
  · unfold State.setPoints
    conv_lhs => rw [whole]
    simp
  · obtain ⟨z, hz, rfl⟩ := List.mem_filterMap.mp hy
    obtain ⟨k, hk, hget⟩ := List.getElem_of_mem hz
    rw [List.length_take, len] at hk
    refine ⟨⟨k, by omega⟩, ?_, by rw [Fin.lt_def]; dsimp only; omega⟩
    simpa using hget
  · obtain ⟨z, hz, rfl⟩ := List.mem_filterMap.mp hy
    obtain ⟨k, hk, hget⟩ := List.getElem_of_mem hz
    rw [List.length_drop, len] at hk
    refine ⟨⟨n.val + 1 + k, by omega⟩, ?_, by rw [Fin.lt_def]; dsimp only; omega⟩
    simpa using hget

/-- A set point is the point of some slot. -/
theorem mem_setPoints {y : SwitchPoint} (h : y ∈ s.setPoints) : ∃ k : Fin 8, s.schedule[k] = some y := by
  obtain ⟨z, hz, rfl⟩ := List.mem_filterMap.mp h
  obtain ⟨k, hk, hget⟩ := List.getElem_of_mem hz
  exact ⟨⟨k, by simpa using hk⟩, by simpa using hget⟩

/-- Among the set slots that `c` selects, slot `n` carries the latest point (R31). -/
theorem latestPoint_filter {n : Fin 8} {x : SwitchPoint} (h : s.schedule[n] = some x) (c : SwitchPoint → Bool) (hx : c x = true)
    (hall : ∀ (k : Fin 8) (y : SwitchPoint), s.schedule[k] = some y → c y = true →
      y.minute < x.minute ∨ (y.minute = x.minute ∧ k ≤ n)) :
    latestPoint (s.setPoints.filter c) = some x := by
  obtain ⟨before, after, hsplit, hbefore, hafter⟩ := setPoints_split h
  rw [hsplit, List.filter_append, List.filter_cons_of_pos hx]
  refine latestPoint_of_split (fun y hy => ?_) fun y hy => ?_
  · obtain ⟨hmem, hc⟩ := List.mem_filter.mp hy
    obtain ⟨k, hk, _⟩ := hbefore y hmem
    rcases hall k y hk hc with hlt | ⟨heq, _⟩
    · exact hlt.le
    · exact heq.le
  · obtain ⟨hmem, hc⟩ := List.mem_filter.mp hy
    obtain ⟨k, hk, hkn⟩ := hafter y hmem
    exact (hall k y hk hc).resolve_right fun ⟨_, hle⟩ => absurd hkn (not_lt.mpr hle)

/-- Settles O43: the latest point at or below the minute, else the latest of all. -/
theorem currentPeriodFollowsTheSchedule : Obligations.CurrentPeriodFollowsTheSchedule := by
  intro s
  have period : ∀ m, s.minute = some m → s.currentPeriod = periodAt s.setPoints m := by
    intro m hm
    unfold State.currentPeriod
    rw [hm]
  refine ⟨fun hm => ?_, fun hunset => ?_, fun m n x hm hx hle hall => ?_, fun m n x hm hx hlate hall => ?_⟩
  · unfold State.currentPeriod
    rw [hm]
  · have empty : s.setPoints = [] := List.eq_nil_iff_forall_not_mem.mpr fun y hy => by
      obtain ⟨k, hk⟩ := mem_setPoints hy
      rw [hunset k] at hk
      exact nomatch hk
    unfold State.currentPeriod
    rw [empty]
    cases s.minute <;> rfl
  · have latest := latestPoint_filter hx (fun y => y.minute ≤ m) (decide_eq_true hle)
      fun k y hk hy => hall k y hk (of_decide_eq_true hy)
    rw [period m hm, periodAt, latest]
  · have early : s.setPoints.filter (fun y => y.minute ≤ m) = [] := List.filter_eq_nil_iff.mpr fun y hy => by
      obtain ⟨k, hk⟩ := mem_setPoints hy
      simpa using hlate k y hk
    have latest := latestPoint_filter hx (fun _ => true) rfl fun k y hk _ => hall k y hk
    rw [List.filter_true] at latest
    have none : latestPoint (s.setPoints.filter fun y => y.minute ≤ m) = none := by
      rw [early]
      rfl
    rw [period m hm, periodAt, none, latest]

/-! ### The ends of the countdowns -/

theorem setBooth_eq_withContexts (s : State) (p : Position) (b : Booth) : s.setBooth p b = s.withContexts p b (s.slot p) :=
  (State.setSlot_slot (s.setBooth p b) p).symm

theorem clearingDown_iff {b : Booth} :
    b.clearingDown = true ↔ b.state = .clearing ∨ (b.state = .fault ∧ b.callUp = true) := by
  simp [Booth.clearingDown]

/-- The timer of a booth that runs the clear-down cycle moves (R16). -/
theorem moveTimer_of_timer (h : (s.booth p).clearingDown = true) {x : ClearDown} (hx : (s.booth p).timer = some x) :
    s.moveTimer p = s.withContexts p { s.booth p with timer := some (x.move s.settings.clearDownHold) } (s.slot p) := by
  unfold State.moveTimer
  rw [if_pos h, State.onBooth_eq, hx, ← setBooth_eq_withContexts]
  rfl

theorem moveTimer_of_still (h : ¬ (s.booth p).clearingDown = true) : s.moveTimer p = s := if_neg h

/-- The grace countdown's last move (R13). -/
theorem enterClearing_eq (s : State) (p : Position) (cause : ClearCause) : s.enterClearing p cause =
    (s.setBooth p { s.booth p with
      state := .clearing, grace := 0, timer := some (.assert s.settings.clearDownHold) }).place (.clearDown p cause) := rfl

/-- Settles O48: the three ends where they are due, and where they are not. -/
theorem countdownEndsTakenAlone : Obligations.CountdownEndsTakenAlone := by
  intro s p hrun
  have live : ∀ f : State → State, Host.Outcome.next (s.live f) = (.next (f s) : Host.Outcome State Fault Refusal) :=
    fun f => congrArg Host.Outcome.next (State.live_of_running hrun f)
  have grace : exec (.graceExpired p) s =
      .next (if (s.booth p).state = .grace ∧ (s.booth p).grace ≤ 1 then s.countGrace p else s) := live _
  have assert : exec (.clearDownAssertEnd p) s =
      .next (if (s.booth p).timer.any ClearDown.assertEnding then s.moveTimer p else s) := live _
  have gap : exec (.clearDownGapEnd p) s =
      .next (if (s.booth p).timer.any ClearDown.gapEnding then s.moveTimer p else s) := live _
  dsimp only
  rw [grace, assert, gap]
  refine ⟨fun hgrace hle => congrArg Host.Outcome.next ?_, fun hnot => congrArg Host.Outcome.next (if_neg ?_),
    fun n hn hle hruns => congrArg Host.Outcome.next ?_, fun n hn hle hruns => congrArg Host.Outcome.next ?_,
    fun hnot => congrArg Host.Outcome.next ?_, fun hnot => congrArg Host.Outcome.next ?_⟩
  · rw [if_pos ⟨hgrace, hle⟩, ← setBooth_eq_withContexts]
    exact if_pos hle
  · rintro ⟨hgrace, hle⟩
    rcases hnot with hne | hge
    · exact hne hgrace
    · omega
  · have ending : (s.booth p).timer.any ClearDown.assertEnding = true := by
      rw [hn]
      exact decide_eq_true hle
    rw [if_pos ending, moveTimer_of_timer (clearingDown_iff.mpr hruns) hn, ClearDown.move, if_pos hle]
  · have ending : (s.booth p).timer.any ClearDown.gapEnding = true := by
      rw [hn]
      exact decide_eq_true hle
    rw [if_pos ending, moveTimer_of_timer (clearingDown_iff.mpr hruns) hn, ClearDown.move, if_pos hle]
  · rcases hnot with hstill | hnone | ⟨n, hn⟩ | ⟨n, hn, hge⟩
    · rw [moveTimer_of_still (mt clearingDown_iff.mp hstill), ite_self]
    all_goals refine if_neg (Bool.eq_false_iff.mp ?_)
    · rw [hnone]
      rfl
    · rw [hn]
      rfl
    · rw [hn]
      exact decide_eq_false (by omega)
  · rcases hnot with hstill | hnone | ⟨n, hn⟩ | ⟨n, hn, hge⟩
    · rw [moveTimer_of_still (mt clearingDown_iff.mp hstill), ite_self]
    all_goals refine if_neg (Bool.eq_false_iff.mp ?_)
    · rw [hnone]
      rfl
    · rw [hn]
      rfl
    · rw [hn]
      exact decide_eq_false (by omega)

/-! ### The bytes of the highway -/

section
variable {m n k i j : Nat}

/-- A field that lies in the left part of two joined words (R173). -/
theorem extract_of_left {x : BitVec m} {y : BitVec n} {z : BitVec k} (hi : i = j + n) (h : x.extractLsb' j k = z) :
    (x ++ y).extractLsb' i k = z := by
  subst hi
  rw [← h]
  apply BitVec.eq_of_getLsbD_eq
  intro a ha
  simp only [BitVec.getLsbD_extractLsb', BitVec.getLsbD_append, ha, decide_true, Bool.true_and]
  rw [if_neg (by omega)]
  congr 1
  omega

/-- A field that lies in the right part of two joined words (R173). -/
theorem extract_of_right {x : BitVec m} {y : BitVec n} {z : BitVec k} (hi : i + k ≤ n) (h : y.extractLsb' i k = z) :
    (x ++ y).extractLsb' i k = z := by
  rw [← h]
  apply BitVec.eq_of_getLsbD_eq
  intro a ha
  simp only [BitVec.getLsbD_extractLsb', BitVec.getLsbD_append, ha, decide_true, Bool.true_and]
  rw [if_pos (by omega)]

theorem extract_whole {x : BitVec k} : x.extractLsb' 0 k = x := by simp

/-- The last field of joined words. -/
theorem extract_last {x : BitVec m} {y : BitVec k} : (x ++ y).extractLsb' 0 k = y :=
  extract_of_right (Nat.zero_add k).le extract_whole
end

/-- The kind, the word address and the last four bytes of a request (R175). -/
theorem requestBytes_fields (kind : BitVec 4) (a : WordAddr) (rest : BitVec 32) :
    (requestBytes kind a rest).extractLsb' 36 4 = kind ∧ (requestBytes kind a rest).extractLsb' 32 4 = a ∧
      (requestBytes kind a rest).extractLsb' 0 32 = rest :=
  ⟨extract_of_left rfl (extract_of_left rfl extract_whole), extract_of_left rfl extract_last, extract_last⟩

/-- The value and the complement of a write (R175). -/
theorem requestBytes_words (kind : BitVec 4) (a : WordAddr) (v c : Word) :
    (requestBytes kind a (v ++ c)).extractLsb' 16 16 = v ∧ (requestBytes kind a (v ++ c)).extractLsb' 0 16 = c :=
  ⟨extract_of_right (by decide) (extract_of_left rfl extract_whole), extract_of_right (by decide) extract_last⟩

theorem decodeRequest_encodeRequest {i : Instr} (hw : i.wellFormed = true) {b : SlotBytes}
    (h : encodeRequest i = some (p, b)) : decodeRequest p b = i := by
  cases i with
  | null q | unlock q =>
    obtain ⟨rfl, rfl⟩ := Prod.mk.inj (Option.some.inj h)
    rfl
  | read q a rest | lockedRead q a rest =>
    obtain ⟨rfl, rfl⟩ := Prod.mk.inj (Option.some.inj h)
    obtain ⟨kind, word, tail⟩ := requestBytes_fields _ a rest
    unfold decodeRequest
    dsimp only
    rw [kind, word, tail]
    rfl
  | write q a v c | protectedWrite q a v c =>
    obtain ⟨rfl, rfl⟩ := Prod.mk.inj (Option.some.inj h)
    obtain ⟨kind, word, _⟩ := requestBytes_fields _ a (v ++ c)
    obtain ⟨value, complement⟩ := requestBytes_words _ a v c
    unfold decodeRequest
    dsimp only
    rw [kind, word, value, complement]
    rfl
  | unknownKind q code =>
    obtain ⟨rfl, rfl⟩ := Prod.mk.inj (Option.some.inj h)
    obtain ⟨kind, _, _⟩ := requestBytes_fields code 0 0
    have other : ∀ k : BitVec 4, k.toNat < 6 → code ≠ k := by
      rintro k hk rfl
      exact absurd (of_decide_eq_true hw) (Nat.not_le.mpr hk)
    unfold decodeRequest
    dsimp only
    rw [kind, if_neg (other 0 (by decide)), if_neg (other 1 (by decide)), if_neg (other 2 (by decide)),
      if_neg (other 3 (by decide)), if_neg (other 4 (by decide)), if_neg (other 5 (by decide))]
  | _ => exact nomatch h

/-- The status of a reply and what follows the four bits sent as 0 (R175). -/
theorem replyBytes_fields (status : Byte) (rest : BitVec 28) :
    statusByte (replyBytes status rest) = status ∧ (replyBytes status rest).extractLsb' 0 28 = rest :=
  ⟨extract_of_left rfl (extract_of_left rfl extract_whole), extract_last⟩

/-- The word address, the value and the last byte of a reply (R175). -/
theorem replyBytes_words (status : Byte) (a : WordAddr) (v : Word) (last : Byte) :
    (replyBytes status (a ++ v ++ last)).extractLsb' 24 4 = a ∧ (replyBytes status (a ++ v ++ last)).extractLsb' 8 16 = v ∧
      (replyBytes status (a ++ v ++ last)).extractLsb' 0 8 = last :=
  ⟨extract_of_right (by decide) (extract_of_left rfl (extract_of_left rfl extract_whole)),
    extract_of_right (by decide) (extract_of_left rfl extract_last), extract_of_right (by decide) extract_last⟩

theorem decodeReply_encodeReply {i : Instr} (hw : i.wellFormed = true) {b : SlotBytes}
    (h : encodeReply i = some (p, b)) : decodeReply p b = i := by
  cases i with
  | absent q rest | ready q rest | busy q rest | error q rest =>
    obtain ⟨rfl, rfl⟩ := Prod.mk.inj (Option.some.inj h)
    obtain ⟨status, tail⟩ := replyBytes_fields _ rest
    unfold decodeReply
    dsimp only
    rw [status, tail]
    rfl
  | data q a v last | written q a v last =>
    obtain ⟨rfl, rfl⟩ := Prod.mk.inj (Option.some.inj h)
    obtain ⟨status, _⟩ := replyBytes_fields _ (a ++ v ++ last)
    obtain ⟨word, value, tail⟩ := replyBytes_words _ a v last
    unfold decodeReply
    dsimp only
    rw [status, word, value, tail]
    rfl
  | accepted q a rest =>
    obtain ⟨rfl, rfl⟩ := Prod.mk.inj (Option.some.inj h)
    obtain ⟨status, _⟩ := replyBytes_fields 0x13 (a ++ rest)
    have word : (replyBytes 0x13 (a ++ rest)).extractLsb' 24 4 = a :=
      extract_of_right (by decide) (extract_of_left rfl extract_whole)
    have tail : (replyBytes 0x13 (a ++ rest)).extractLsb' 0 24 = rest := extract_of_right (by decide) extract_last
    unfold decodeReply
    dsimp only
    rw [status, word, tail]
    rfl
  | unknownStatus q bytes =>
    obtain ⟨rfl, rfl⟩ := Prod.mk.inj (Option.some.inj h)
    have other : ∀ k : Byte, 0x10 ≤ k.toNat → k.toNat ≤ 0x16 → statusByte bytes ≠ k := by
      rintro k hge hle rfl
      have unknown : statusUnknown (statusByte bytes) = true := hw
      simp only [statusUnknown, Bool.or_eq_true, decide_eq_true_eq] at unknown
      omega
    unfold decodeReply
    dsimp only
    rw [if_neg (other 0x10 (by decide) (by decide)), if_neg (other 0x11 (by decide) (by decide)),
      if_neg (other 0x12 (by decide) (by decide)), if_neg (other 0x13 (by decide) (by decide)),
      if_neg (other 0x14 (by decide) (by decide)), if_neg (other 0x15 (by decide) (by decide)),
      if_neg (other 0x16 (by decide) (by decide))]
  | _ => exact nomatch h

theorem decodeTable_encodeTable {i : Instr} {w : TableBytes} (h : encodeTable i = some w) : decodeTable w = some i := by
  cases i with
  | tariff band period charge rate =>
    obtain rfl := Option.some.inj h
    generalize hw : ((1 : Byte) ++ band ++ period ++ charge ++ rate : TableBytes) = w
    have kind : tableByte w 0 = 1 := hw ▸ extract_of_left rfl (extract_of_left rfl (extract_of_left rfl
      (extract_of_left rfl extract_whole)))
    have b1 : tableByte w 1 = band := hw ▸ extract_of_left rfl (extract_of_left rfl (extract_of_left rfl extract_last))
    have b2 : tableByte w 2 = period := hw ▸ extract_of_left rfl (extract_of_left rfl extract_last)
    have b3 : tableByte w 3 = charge := hw ▸ extract_of_left rfl extract_last
    have b4 : tablePair w 4 = rate := hw ▸ extract_last
    unfold decodeTable
    dsimp only
    rw [kind, b1, b2, b3, b4]
    rfl
  | schedule slot minute period =>
    obtain rfl := Option.some.inj h
    generalize hw : ((2 : Byte) ++ slot ++ minute ++ period ++ (0 : Byte) : TableBytes) = w
    have kind : tableByte w 0 = 2 := hw ▸ extract_of_left rfl (extract_of_left rfl (extract_of_left rfl
      (extract_of_left rfl extract_whole)))
    have b1 : tableByte w 1 = slot := hw ▸ extract_of_left rfl (extract_of_left rfl (extract_of_left rfl extract_last))
    have b2 : tablePair w 2 = minute := hw ▸ extract_of_left rfl (extract_of_left rfl extract_last)
    have b4 : tableByte w 4 = period := hw ▸ extract_of_left rfl extract_last
    unfold decodeTable
    dsimp only
    rw [kind, b1, b2, b4]
    rfl
  | setting number value =>
    obtain rfl := Option.some.inj h
    generalize hw : ((3 : Byte) ++ number ++ value ++ (0 : Word) : TableBytes) = w
    have kind : tableByte w 0 = 3 := hw ▸ extract_of_left rfl (extract_of_left rfl (extract_of_left rfl extract_whole))
    have b1 : tableByte w 1 = number := hw ▸ extract_of_left rfl (extract_of_left rfl extract_last)
    have b2 : tablePair w 2 = value := hw ▸ extract_of_left rfl extract_last
    unfold decodeTable
    dsimp only
    rw [kind, b1, b2]
    rfl
  | position number mode =>
    obtain rfl := Option.some.inj h
    generalize hw : ((4 : Byte) ++ number ++ mode ++ (0 : Byte) ++ (0 : Word) : TableBytes) = w
    have kind : tableByte w 0 = 4 := hw ▸ extract_of_left rfl (extract_of_left rfl (extract_of_left rfl
      (extract_of_left rfl extract_whole)))
    have b1 : tableByte w 1 = number := hw ▸ extract_of_left rfl (extract_of_left rfl (extract_of_left rfl extract_last))
    have b2 : tableByte w 2 = mode := hw ▸ extract_of_left rfl (extract_of_left rfl extract_last)
    unfold decodeTable
    dsimp only
    rw [kind, b1, b2]
    rfl
  | _ => exact nomatch h

theorem decodeHeader_encodeHeader {i : Instr} {w : TenBytes} (h : encodeHeader i = some w) : decodeHeader w = i := by
  cases i with
  | headerArrival frame minute flags table =>
    obtain rfl := Option.some.inj h
    generalize hw : headerBytes frame minute flags table = w
    have b0 : w.extractLsb' 72 8 = frame := hw ▸ extract_of_left rfl (extract_of_left rfl (extract_of_left rfl extract_whole))
    have b1 : w.extractLsb' 56 16 = minute := hw ▸ extract_of_left rfl (extract_of_left rfl extract_last)
    have b3 : w.extractLsb' 48 8 = flags := hw ▸ extract_of_left rfl extract_last
    have b4 : w.extractLsb' 0 48 = table := hw ▸ extract_last
    unfold decodeHeader
    rw [b0, b1, b3, b4]
  | _ => exact nomatch h

/-- Settles O60: each of the four layouts decodes back. -/
theorem highwayBytesDecodeBack : Obligations.HighwayBytesDecodeBack := by
  intro i hw
  exact ⟨fun _ _ => decodeRequest_encodeRequest hw, fun _ _ => decodeReply_encodeReply hw, fun _ => decodeTable_encodeTable,
    fun _ => decodeHeader_encodeHeader⟩

end Sys2Proof.Machine

/-! ## Locks and the trailer (R103, R117, R167, R174, R177) -/

namespace Sys2Proof.Machine

variable {s : State} {p : Position}

/-- The trailer of a frame from its record, its lost count and its level (R103, R174). -/
structure TrailerSent (s : State) (sent : Nat) (record : Option Report) (held : Bool) (left : List Report) (t : State) :
    Prop where
  eq : t = { s with
    reports := left,
    port := { s.port with
      byteTime := max s.port.byteTime (144 + min 10 sent), trailerRecord := some record,
      recordHeld := if 8 ≤ sent then false else held,
      trailerDue := decide ((s.port.upTrailer ++
        ((trailerBytes record s.lost left.length).take sent).drop s.port.upTrailer.length).length < 10),
      upTrailer := s.port.upTrailer ++
        ((trailerBytes record s.lost left.length).take sent).drop s.port.upTrailer.length } }

/-- The record field is the one begun, or begins with the oldest record (R103). -/
theorem beginTrailer_eq (s : State) : s.beginTrailer = { s with port := { s.port with
    trailerRecord := some (if s.port.trailerRecord.isSome then s.port.trailerRecord.getD none else s.reports.head?),
    recordHeld := if s.port.trailerRecord.isSome then s.port.recordHeld else !s.reports.isEmpty } } := by
  have queued : s.reports.head?.isSome = !s.reports.isEmpty := by cases s.reports <;> rfl
  unfold State.beginTrailer
  cases h : s.port.trailerRecord with
  | none => simp [queued]
  | some r =>
    simp only [Option.isSome_some, if_true, Option.getD_some]
    rw [← h]

/-- The record leaves the queue once its eight bytes have gone (R103). -/
theorem giveUpRecord_eq (s : State) (sent : Nat) : s.giveUpRecord sent = { s with
    reports := if 8 ≤ sent ∧ s.port.recordHeld then s.reports.drop 1 else s.reports,
    port := { s.port with recordHeld := if 8 ≤ sent then false else s.port.recordHeld } } := by
  unfold State.giveUpRecord
  by_cases hsent : 8 ≤ sent
  · by_cases hheld : s.port.recordHeld = true
    · simp [hsent, hheld]
    · have free : s.port.recordHeld = false := Bool.eq_false_iff.mpr hheld
      simp only [free, Bool.false_eq_true, and_false, if_false, ite_self]
      rw [← free]
  · simp [hsent]

theorem trailerRecord_sent (h : s.running) (hdue : s.port.trailerDue = true) (sent : Nat) :
    ∃ t, exec (.trailerRecord sent) s = .next t ∧
      TrailerSent s sent (if s.port.trailerRecord.isSome then s.port.trailerRecord.getD none else s.reports.head?)
        (if s.port.trailerRecord.isSome then s.port.recordHeld else !s.reports.isEmpty)
        (if 8 ≤ sent ∧ (if s.port.trailerRecord.isSome then s.port.recordHeld else !s.reports.isEmpty) then
          s.reports.drop 1 else s.reports) t := by
  refine ⟨_, congrArg Host.Outcome.next ((State.live_of_running h _).trans (if_pos hdue)), ⟨?_⟩⟩
  rw [beginTrailer_eq, giveUpRecord_eq]
  rfl

/-! ### The layouts of the records -/

/-- Byte 7 of the serial layout (R177). -/
theorem serialByte_eq (c : Prop) [Decidable c] (n : Nat) :
    lowByte ((if c then 0x80 else 0) + n) = BitVec.ofNat 8 (if c then 128 + n else n) := by
  by_cases h : c
  · rw [if_pos h, if_pos h]
    rfl
  · rw [if_neg h, if_neg h, Nat.zero_add]
    rfl

/-- Settles O37: a lock at 1, and a trailer sent as far as some byte. -/
theorem lockExpiryAndTrailer : Obligations.LockExpiryAndTrailer := by
  intro s p sent hrun
  have lock : exec (.lockExpired p) s = .next (if (s.slot p).lock = 1 then s.lowerLock p else s) :=
    congrArg Host.Outcome.next (State.live_of_running hrun _)
  refine ⟨fun h => ?_, fun h => ?_, fun h => ?_, fun hdue => ?_⟩
  · rw [lock, if_pos h]
    refine congrArg Host.Outcome.next ?_
    unfold State.lowerLock
    simp only [h, if_neg Nat.one_ne_zero, if_true]
    rw [State.onSlot_eq, State.withContexts, State.setBooth_booth]
    rfl
  · rw [lock, if_neg h]
  · exact congrArg Host.Outcome.next ((State.live_of_running hrun _).trans (if_neg (Bool.eq_false_iff.mp h)))
  · intro byte two four bytes begun record held left field emitted
    have layout : ∀ r, bytes r = r.bytes := by
      rintro ⟨kind, place, serial, units, aux⟩
      cases kind with
      | callEnd | arrearsOpened =>
        simp only [bytes, Report.bytes, serialRecord, serialByte_eq]
        rfl
      | refusedWrite cause => cases cause <;> cases place <;> rfl
      | unitsDropped cause => cases cause <;> cases place <;> rfl
      | clearDown cause => cases cause <;> cases place <;> rfl
      | arrearsDropped cause => cases cause <;> rfl
      | arrearsCollected => rfl
      | readerFault | lockExpired | highwayLost | highwayRestored | warmRestart => cases place <;> rfl
    have fields : field ++ [BitVec.ofNat 8 s.lost, BitVec.ofNat 8 left.length] = trailerBytes record s.lost left.length := by
      unfold trailerBytes
      refine congrArg (· ++ _) ?_
      dsimp only [field]
      cases record with
      | none => rfl
      | some r => exact layout r
    obtain ⟨t, ht, ⟨rfl⟩⟩ := trailerRecord_sent hrun hdue sent
    have sentBytes : emitted = s.port.upTrailer ++
        ((trailerBytes record s.lost left.length).take sent).drop s.port.upTrailer.length := by rw [← fields]
    rw [ht]
    clear_value emitted
    subst sentBytes
    rfl

end Sys2Proof.Machine

/-! ## Records placed and units dropped, taken together (R66, R70 to R76, R166) -/

namespace Sys2Proof.Machine

variable {s t : State} {p q : Position}

/-- These records are placed one after the other, and `n` units are dropped. -/
def State.posts (s : State) (rs : List Report) (n : Nat) : State := (rs.foldl State.place s).addDropped n

/-! ### Posts one after the other -/

@[simp] theorem State.posts_nil (s : State) : s.posts [] 0 = s := rfl

theorem State.place_eq_posts (s : State) (r : Report) : s.place r = s.posts [r] 0 := rfl

theorem State.addDropped_place (s : State) (n : Nat) (r : Report) : (s.addDropped n).place r = (s.place r).addDropped n := by
  by_cases h : s.reports.length < 32 <;> simp [State.place, State.addDropped, h]

theorem State.addDropped_foldl_place (s : State) (n : Nat) (rs : List Report) :
    rs.foldl State.place (s.addDropped n) = (rs.foldl State.place s).addDropped n := by
  induction rs generalizing s with
  | nil => rfl
  | cons r rs ih => rw [List.foldl_cons, State.addDropped_place, ih, List.foldl_cons]

@[simp] theorem State.posts_posts (s : State) (rs rs' : List Report) (n n' : Nat) :
    (s.posts rs n).posts rs' n' = s.posts (rs ++ rs') (n + n') := by
  unfold State.posts
  rw [State.addDropped_foldl_place, List.foldl_append]
  simp only [State.addDropped, Nat.add_assoc]

theorem State.placeIf_eq_posts (s : State) (c : Bool) (r : Report) : s.placeIf c r = s.posts (if c then [r] else []) 0 := by
  cases c <;> rfl

theorem State.dropUnits_eq_posts (s : State) (p : Position) (n : Nat) (cause : DropCause) :
    s.dropUnits p n cause = s.posts [.unitsDropped p n cause] n := rfl

/-! ### What a post leaves alone -/

theorem sameRest_foldl_place (s : State) (rs : List Report) : SameRest s (rs.foldl State.place s) :=
  List.foldlRecOn rs _ (SameRest.refl s) fun _ ht r _ => ht.trans (sameRest_place _ r)

theorem sameRest_posts (s : State) (rs : List Report) (n : Nat) : SameRest s (s.posts rs n) :=
  (sameRest_foldl_place s rs).trans (sameRest_addDropped ..)

theorem State.posts_frame (s : State) (rs : List Report) (n : Nat) :
    (s.posts rs n).booths = s.booths ∧ (s.posts rs n).slots = s.slots ∧ (s.posts rs n).arrears = s.arrears ∧
      (s.posts rs n).ledger = { s.ledger with dropped := s.ledger.dropped + n } := by
  have placed : (rs.foldl State.place s).booths = s.booths ∧ (rs.foldl State.place s).slots = s.slots ∧
      (rs.foldl State.place s).arrears = s.arrears ∧ (rs.foldl State.place s).ledger = s.ledger := by
    induction rs generalizing s with
    | nil => exact ⟨rfl, rfl, rfl, rfl⟩
    | cons r rs ih =>
      obtain ⟨b, c, a, l⟩ := ih (s.place r)
      rw [List.foldl_cons]
      exact ⟨by rw [b, State.place_booths], by rw [c, State.place_slots], by rw [a, State.place_arrears],
        by rw [l, State.place_ledger]⟩
  obtain ⟨b, c, a, l⟩ := placed
  exact ⟨b, c, a, by simp only [State.posts, State.addDropped, l]⟩

@[simp] theorem State.posts_booths (rs : List Report) (n : Nat) : (s.posts rs n).booths = s.booths := (s.posts_frame rs n).1

@[simp] theorem State.posts_slots (rs : List Report) (n : Nat) : (s.posts rs n).slots = s.slots := (s.posts_frame rs n).2.1

@[simp] theorem State.posts_arrears (rs : List Report) (n : Nat) : (s.posts rs n).arrears = s.arrears :=
  (s.posts_frame rs n).2.2.1

@[simp] theorem State.posts_ledger (rs : List Report) (n : Nat) :
    (s.posts rs n).ledger = { s.ledger with dropped := s.ledger.dropped + n } := (s.posts_frame rs n).2.2.2

@[simp] theorem State.posts_booth (rs : List Report) (n : Nat) : (s.posts rs n).booth q = s.booth q := by
  rw [State.booth, State.posts_booths, State.booth]

@[simp] theorem State.posts_slot (rs : List Report) (n : Nat) : (s.posts rs n).slot q = s.slot q := by
  rw [State.slot, State.posts_slots, State.slot]

@[simp] theorem State.posts_settings (rs : List Report) (n : Nat) : (s.posts rs n).settings = s.settings :=
  (sameRest_posts s rs n).settings

/-- Records placed with room join the queue (R166). -/
theorem State.foldl_place_of_room {rs : List Report} (h : s.reports.length + rs.length ≤ 32) :
    rs.foldl State.place s = { s with reports := s.reports ++ rs } := by
  induction rs generalizing s with
  | nil => simp
  | cons r rs ih =>
    rw [List.length_cons] at h
    have room : s.reports.length < 32 := by omega
    rw [List.foldl_cons, State.place_of_room s room, ih (by simpa [Nat.add_assoc, Nat.add_comm, Nat.add_left_comm] using h)]
    simp

/-- With room for its records a post adds them to the queue (R166). -/
theorem State.posts_of_room {rs : List Report} (n : Nat) (h : s.reports.length + rs.length ≤ 32) :
    s.posts rs n =
      { s with reports := s.reports ++ rs, ledger := { s.ledger with dropped := s.ledger.dropped + n } } := by
  unfold State.posts
  rw [State.foldl_place_of_room h]
  rfl

theorem State.posts_reports {rs : List Report} (n : Nat) (h : s.reports.length + rs.length ≤ 32) :
    (s.posts rs n).reports = s.reports ++ rs ∧ (s.posts rs n).lost = s.lost := by
  rw [State.posts_of_room n h]
  exact ⟨rfl, rfl⟩

/-! ### Posts and writes commute -/

@[simp] theorem State.posts_setBooth (rs : List Report) (n : Nat) (b : Booth) :
    (s.posts rs n).setBooth p b = (s.setBooth p b).posts rs n := by
  have placed : (rs.foldl State.place s).setBooth p b = rs.foldl State.place (s.setBooth p b) := by
    induction rs generalizing s with
    | nil => rfl
    | cons r rs ih => rw [List.foldl_cons, ih, List.foldl_cons, State.place_setBooth]
  unfold State.posts
  rw [← placed]
  rfl

@[simp] theorem State.posts_setSlot (rs : List Report) (n : Nat) (c : Intercept) :
    (s.posts rs n).setSlot p c = (s.setSlot p c).posts rs n := by
  have placed : (rs.foldl State.place s).setSlot p c = rs.foldl State.place (s.setSlot p c) := by
    induction rs generalizing s with
    | nil => rfl
    | cons r rs ih => rw [List.foldl_cons, ih, List.foldl_cons, State.place_setSlot]
  unfold State.posts
  rw [← placed]
  rfl

/-! ### What units that leave a booth become, where no booth holds their serial (R9, R70, R73 to R76) -/

/-- The records of units dropped as NO SERIAL (R9, R165). -/
def noSerialRecords (p : Position) (n : Nat) : List Report :=
  if n ≤ 65535 then [.unitsDropped p n .noSerial]
  else [.unitsDropped p 65535 .noSerial, .unitsDropped p (n - 65535) .noSerial]

theorem dropNoSerial_eq_posts (s : State) (p : Position) (n : Nat) :
    s.dropNoSerial p n = s.posts (noSerialRecords p n) n := by
  unfold State.dropNoSerial noSerialRecords
  by_cases h : n ≤ 65535
  · rw [if_pos h, if_pos h]
    rfl
  · have sum := Nat.add_sub_of_le (Nat.le_of_not_le h)
    rw [if_neg h, if_neg h, State.dropUnits_eq_posts, State.dropUnits_eq_posts, State.posts_posts, sum]
    exact rfl

/-- The records of an entry that has left the list (R75, R79, R165). -/
def entryRecords (e : ArrearsEntry) (cause : EntryDropCause) : List Report :=
  .entryDropped e cause (min 65535 e.units) (pairK e.pair) ::
    if 65535 < e.units then [.entryDropped e cause (e.units - 65535) 0] else []

theorem dropEntry_eq_posts (s : State) (e : ArrearsEntry) (cause : EntryDropCause) :
    s.dropEntry e cause = s.posts (entryRecords e cause) e.units := by
  unfold State.dropEntry entryRecords
  rw [State.place_eq_posts, State.placeIf_eq_posts, State.posts_posts]
  have split : (if decide (Config.unitsMax < e.units) then
      [Report.entryDropped e cause (e.units - Config.unitsMax) 0] else []) =
      if 65535 < e.units then [.entryDropped e cause (e.units - 65535) 0] else [] := by
    simp only [decide_eq_true_eq]
  rw [split]
  rfl

/-- The records of an opening in the list, in the order of R76. -/
def Opening.records (o : Opening) (q : Position) (serial u : Nat) (pair : Option Pair) : List Report :=
  (o.evicted.elim [] fun e => entryRecords e .evicted) ++ .opened q serial u pair ::
    ((if 0 < o.excess then [.unitsDropped q o.excess .saturated] else []) ++
      o.unresolved.elim [] fun k => [.unitsDropped q k .unresolved])

theorem openInList_eq_posts (s : State) (q : Position) (serial u : Nat) (pair : Option Pair) :
    s.openInList q serial u pair =
      ({ s with arrears := (openEntry s.arrears q serial u pair).entries } : State).posts
        ((openEntry s.arrears q serial u pair).records q serial u pair)
        (openEntry s.arrears q serial u pair).dropped := by
  unfold State.openInList
  dsimp only
  generalize openEntry s.arrears q serial u pair = o
  generalize ({ s with arrears := o.entries } : State) = t
  have evicted : t.dropEvicted o.evicted =
      t.posts (o.evicted.elim [] fun e => entryRecords e .evicted) (o.evicted.elim 0 ArrearsEntry.units) := by
    unfold State.dropEvicted
    cases o.evicted with
    | none => rfl
    | some e => exact dropEntry_eq_posts ..
  have excess : ∀ t : State, t.dropExcess q o.excess =
      t.posts (if 0 < o.excess then [.unitsDropped q o.excess .saturated] else []) o.excess := by
    intro t
    unfold State.dropExcess
    split
    · rfl
    next h =>
      have zero : o.excess = 0 := by omega
      rw [zero]
      rfl
  have unresolved : ∀ t : State, t.dropUnresolved q o.unresolved =
      t.posts (o.unresolved.elim [] fun k => [.unitsDropped q k .unresolved]) (o.unresolved.getD 0) := by
    intro t
    unfold State.dropUnresolved
    cases o.unresolved <;> rfl
  have dropped : o.dropped = o.evicted.elim 0 ArrearsEntry.units + o.excess + o.unresolved.getD 0 := by
    unfold Opening.dropped
    cases o.evicted <;> rfl
  rw [evicted, State.place_eq_posts, State.posts_posts, excess, State.posts_posts, unresolved, State.posts_posts, dropped]
  unfold Opening.records
  simp only [List.append_assoc, List.cons_append, List.nil_append, Nat.add_zero]

/-- What becomes of units and a pair that leave a booth: the list, the records and the units dropped. -/
structure Departure where
  entries : List ArrearsEntry
  records : List Report
  dropped : Nat

/-- The departure of units and a pair under a debt serial that no booth holds, or under none (R9, R70). -/
def departure (l : List ArrearsEntry) (p : Position) (debt : Option Nat) (u : Nat) (pair : Option Pair) : Departure :=
  if u = 0 ∧ pair = none then ⟨l, [], 0⟩
  else match debt with
    | some n => ⟨(openEntry l p n u pair).entries, (openEntry l p n u pair).records p n u pair, (openEntry l p n u pair).dropped⟩
    | none => ⟨l, noSerialRecords p (u + pairK pair), u + pairK pair⟩

theorem holder_eq_none {n : Nat} (h : ∀ q, (s.booth q).holds n = false) : s.holder n = none :=
  List.find?_eq_none.mpr fun q _ => Bool.eq_false_iff.mp (h q)

/-- Units whose serial no booth holds depart into the list or are dropped (R9, R70). -/
theorem sendOut_eq_posts (s : State) (p : Position) (debt : Option Nat) (u : Nat) (pair : Option Pair)
    (h : ∀ n, debt = some n → ¬ (u = 0 ∧ pair = none) → ∀ q, (s.booth q).holds n = false) :
    s.sendOut p debt u pair = ({ s with arrears := (departure s.arrears p debt u pair).entries } : State).posts
      (departure s.arrears p debt u pair).records (departure s.arrears p debt u pair).dropped := by
  unfold State.sendOut departure
  by_cases hnothing : u = 0 ∧ pair = none
  · rw [if_pos hnothing, if_pos hnothing]
    rfl
  rw [if_neg hnothing, if_neg hnothing]
  cases debt with
  | none => exact dropNoSerial_eq_posts ..
  | some n =>
    dsimp only
    unfold State.openArrears
    rw [holder_eq_none (h n rfl hnothing)]
    exact openInList_eq_posts ..

theorem departure_serial {u : Nat} {pair : Option Pair} (h : ¬ (u = 0 ∧ pair = none)) (l : List ArrearsEntry) (p : Position)
    (n : Nat) : departure l p (some n) u pair = ⟨(openEntry l p n u pair).entries,
      (openEntry l p n u pair).records p n u pair, (openEntry l p n u pair).dropped⟩ := if_neg h

theorem departure_noSerial {u : Nat} {pair : Option Pair} (h : ¬ (u = 0 ∧ pair = none)) (l : List ArrearsEntry)
    (p : Position) : departure l p none u pair = ⟨l, noSerialRecords p (u + pairK pair), u + pairK pair⟩ := if_neg h

/-- A serial that no entry carries makes a new entry, and with room for it drops nothing (R75). -/
theorem openEntry_new {l : List ArrearsEntry} {n : Nat} (h : ∀ e ∈ l, e.serial ≠ n) (hl : l.length < 32) (q : Position)
    (u : Nat) (pair : Option Pair) : openEntry l q n u pair =
      { entries := l ++ [{ serial := n, owed := u, pair := pair, age := 0, origin := q }], evicted := none, excess := 0,
        unresolved := none } := by
  have none : findEntry l n = none := List.find?_eq_none.mpr fun e he => by simpa using h e he
  have room : ¬ Config.arrearsCapacity ≤ l.length := Nat.not_le.mpr hl
  unfold openEntry
  rw [none]
  dsimp only
  rw [if_neg room, if_neg room]

theorem openEntry_new_records {l : List ArrearsEntry} {n : Nat} (h : ∀ e ∈ l, e.serial ≠ n) (hl : l.length < 32) (q : Position)
    (u : Nat) (pair : Option Pair) : (openEntry l q n u pair).records q n u pair = [.opened q n u pair] ∧
      (openEntry l q n u pair).dropped = 0 := by
  rw [openEntry_new h hl]
  exact ⟨rfl, rfl⟩

end Sys2Proof.Machine

/-! ## What happens at one position: contexts, entries, records and the account (R1, R66, R67, R104) -/

namespace Sys2Proof.Machine

variable {s t : State} {p q : Position}

/-- The queue and the lost count after a record is placed (R166, R168). -/
def queued (q : List Report × Nat) (r : Report) : List Report × Nat :=
  if q.1.length < 32 then (q.1 ++ [r], q.2) else (q.1, min 255 (q.2 + 1))

theorem State.place_eq_queued (s : State) (r : Report) : s.place r =
    { s with reports := (queued (s.reports, s.lost) r).1, lost := (queued (s.reports, s.lost) r).2 } := by
  unfold queued
  by_cases h : s.reports.length < 32
  · rw [if_pos h, State.place_of_room s h]
  · rw [if_neg h, State.place_of_full s (Nat.le_of_not_lt h)]

theorem State.posts_eq_queued (s : State) (rs : List Report) (n : Nat) : s.posts rs n =
    { s with reports := (rs.foldl queued (s.reports, s.lost)).1, lost := (rs.foldl queued (s.reports, s.lost)).2,
             ledger := { s.ledger with dropped := s.ledger.dropped + n } } := by
  have placed : rs.foldl State.place s =
      { s with reports := (rs.foldl queued (s.reports, s.lost)).1,
               lost := (rs.foldl queued (s.reports, s.lost)).2 } := by
    induction rs generalizing s with
    | nil => rfl
    | cons r rs ih =>
      rw [List.foldl_cons, List.foldl_cons, ih, State.place_eq_queued]
  unfold State.posts
  rw [placed]
  rfl

/-- What an operation leaves behind at its position: the two contexts, the Arrears List, the records that it places and
the units that it accrues, debits and drops. -/
structure Change where
  booth : Booth
  slot : Intercept
  entries : List ArrearsEntry
  records : List Report
  accrued : Nat
  debited : Nat
  dropped : Nat

/-- `s` after a change at `p`. -/
def State.change (s : State) (p : Position) (x : Change) : State :=
  { s with
    booths := s.booths.set p.val x.booth p.isLt,
    slots := s.slots.set p.val x.slot p.isLt,
    arrears := x.entries,
    reports := (x.records.foldl queued (s.reports, s.lost)).1,
    lost := (x.records.foldl queued (s.reports, s.lost)).2,
    ledger := { accrued := s.ledger.accrued + x.accrued, debited := s.ledger.debited + x.debited,
                dropped := s.ledger.dropped + x.dropped } }

/-- The change that new contexts alone make. -/
def State.rewrite (s : State) (b : Booth) (c : Intercept) : Change :=
  { booth := b, slot := c, entries := s.arrears, records := [], accrued := 0, debited := 0, dropped := 0 }

theorem State.withContexts_self (s : State) (p : Position) : s.withContexts p (s.booth p) (s.slot p) = s := by
  rw [State.withContexts, State.setBooth_booth]
  exact State.setSlot_slot s p

theorem State.change_rewrite (s : State) (p : Position) (b : Booth) (c : Intercept) :
    s.change p (s.rewrite b c) = s.withContexts p b c := rfl

/-- A state is its own change by nothing. -/
theorem State.change_self (s : State) (p : Position) : s = s.change p (s.rewrite (s.booth p) (s.slot p)) :=
  ((s.change_rewrite p _ _).trans (s.withContexts_self p)).symm

variable {x : Change}

/-! ### What a changed state reads -/

@[simp] theorem State.change_booth (s : State) (p : Position) (x : Change) : (s.change p x).booth p = x.booth :=
  (s.booth_setBooth_self p x.booth :)

@[simp] theorem State.change_slot (s : State) (p : Position) (x : Change) : (s.change p x).slot p = x.slot :=
  (s.slot_setSlot_self p x.slot :)

theorem localAt_change (s : State) (p : Position) (x : Change) : LocalAt p s (s.change p x) :=
  ⟨fun _ hq => (s.booth_setBooth_of_ne hq x.booth :), fun _ hq => (s.slot_setSlot_of_ne hq x.slot :), SameRest.refl s⟩

@[simp] theorem State.change_arrears : (s.change p x).arrears = x.entries := rfl

@[simp] theorem State.change_ledger : (s.change p x).ledger =
    { accrued := s.ledger.accrued + x.accrued, debited := s.ledger.debited + x.debited,
      dropped := s.ledger.dropped + x.dropped } := rfl

@[simp] theorem State.change_settings : (s.change p x).settings = s.settings := rfl

@[simp] theorem State.change_lookup (band : Band) : (s.change p x).lookup band = s.lookup band := rfl

@[simp] theorem State.change_effectiveBand :
    (s.change p x).effectiveBand p = x.booth.band.getD s.settings.unknownBand := by
  rw [State.effectiveBand, State.change_booth, State.change_settings]

@[simp] theorem State.change_bandOf (v : Word) : (s.change p x).bandOf v = s.bandOf v := rfl

@[simp] theorem State.change_graceTicks : (s.change p x).graceTicks = s.graceTicks := rfl

/-- With room for them the records of a change join the queue (R166). -/
theorem State.change_reports (h : s.reports.length + x.records.length ≤ 32) :
    (s.change p x).lost = s.lost ∧ (s.change p x).reports = s.reports ++ x.records := by
  obtain ⟨reports, lost⟩ := State.posts_reports (s := s) 0 h
  rw [State.posts_eq_queued] at reports lost
  exact ⟨lost, reports⟩

/-! ### Steps at the position -/

@[simp] theorem State.change_setBooth (b : Booth) : (s.change p x).setBooth p b = s.change p { x with booth := b } := by
  simp [State.change, State.setBooth]

@[simp] theorem State.change_setSlot (c : Intercept) : (s.change p x).setSlot p c = s.change p { x with slot := c } := by
  simp [State.change, State.setSlot]

@[simp] theorem State.change_posts (rs : List Report) (n : Nat) :
    (s.change p x).posts rs n = s.change p { x with records := x.records ++ rs, dropped := x.dropped + n } := by
  rw [State.posts_eq_queued]
  simp [State.change, Nat.add_assoc]

@[simp] theorem State.change_place (r : Report) :
    (s.change p x).place r = s.change p { x with records := x.records ++ [r] } :=
  State.change_posts [r] 0

theorem State.change_placeIf (c : Bool) (r : Report) :
    (s.change p x).placeIf c r = s.change p { x with records := x.records ++ if c then [r] else [] } := by
  rw [State.placeIf_eq_posts]
  exact State.change_posts ..

@[simp] theorem State.change_dropUnits (n : Nat) (cause : DropCause) : (s.change p x).dropUnits q n cause =
    s.change p { x with records := x.records ++ [.unitsDropped q n cause], dropped := x.dropped + n } :=
  State.change_posts [.unitsDropped q n cause] n

@[simp] theorem State.change_addDebited (n : Nat) :
    (s.change p x).addDebited n = s.change p { x with debited := x.debited + n } := by
  simp [State.change, State.addDebited, Nat.add_assoc]

@[simp] theorem State.change_addAccrued (n : Nat) :
    (s.change p x).addAccrued n = s.change p { x with accrued := x.accrued + n } := by
  simp [State.change, State.addAccrued, Nat.add_assoc]

theorem State.change_entries (l : List ArrearsEntry) :
    ({ s.change p x with arrears := l } : State) = s.change p { x with entries := l } := rfl

/-! ### Operations on a changed state -/

theorem State.change_evaluate : (s.change p x).evaluate p =
    s.change p { x with booth := x.booth.evaluated x.slot s.settings.graceTime } := by
  rw [evaluate_eq, State.change_booth, State.change_slot, State.change_setBooth, State.change_settings]

theorem State.change_enterClearing (cause : ClearCause) : (s.change p x).enterClearing p cause = s.change p { x with
    booth := { x.booth with state := .clearing, grace := 0, timer := some (.assert s.settings.clearDownHold) },
    records := x.records ++ [.clearDown p cause] } := by
  simp [State.enterClearing]

/-- The booth whose units passed 65,535 (R40). -/
def Booth.saturated (b : Booth) (hold : Nat) : Booth :=
  if b.state = .call ∨ b.state = .grace then
    { b with owed := 65535, state := .clearing, grace := 0, timer := some (.assert hold) }
  else { b with owed := 65535 }

/-- The CLEAR-DOWN record of a saturation (R15, R40). -/
def Booth.saturationRecords (b : Booth) (p : Position) : List Report :=
  if b.state = .call ∨ b.state = .grace then [.clearDown p .saturated] else []

/-- `n` units added to W with all that R40 says of a saturation. -/
def Change.charge (x : Change) (p : Position) (hold n : Nat) : Change :=
  if x.booth.owed + n ≤ 65535 then { x with booth := { x.booth with owed := x.booth.owed + n } }
  else { x with
    booth := x.booth.saturated hold,
    records := x.records ++ .unitsDropped p (x.booth.owed + n - 65535) .saturated :: x.booth.saturationRecords p,
    dropped := x.dropped + (x.booth.owed + n - 65535) }

theorem State.change_charge (n : Nat) :
    (s.change p x).charge p n = s.change p (x.charge p s.settings.clearDownHold n) := by
  unfold Change.charge Booth.saturated Booth.saturationRecords
  by_cases h : x.booth.owed + n ≤ 65535
  · have fits : ((s.change p x).booth p).owed + n ≤ 65535 := by rwa [State.change_booth]
    rw [if_pos h, charge_of_fits fits, State.change_booth, State.change_setBooth]
  · have full : 65535 < ((s.change p x).booth p).owed + n := by
      rw [State.change_booth]
      exact Nat.lt_of_not_le h
    rw [if_neg h, charge_of_saturates full, State.change_booth, State.change_setBooth, State.change_dropUnits]
    unfold State.clearSaturated
    rw [State.change_booth, State.change_enterClearing]
    dsimp only
    split
    · rw [List.append_assoc]
      rfl
    · rfl

theorem Change.charge_of_fits (x : Change) (p : Position) (hold : Nat) {n : Nat} (h : x.booth.owed + n ≤ 65535) :
    x.charge p hold n = { x with booth := { x.booth with owed := x.booth.owed + n } } := if_pos h

/-- The pending resolution of a booth with a known balance is settled (R62). -/
theorem State.change_settlePending {q : Pair} {n : Nat} (hq : x.booth.pendingRes = some q) (hn : x.booth.known = some n) :
    (s.change p x).settlePending p = ((s.change p { x with
      booth := { x.booth with pendingRes := none }, debited := x.debited + (q.k - q.extra n) }).charge p
        (q.extra n)).evaluate p := by
  unfold State.settlePending
  rw [State.change_booth, hq, hn]
  simp

/-- Units whose serial no booth holds depart (R9, R70). -/
theorem State.change_sendOut (debt : Option Nat) (u : Nat) (pair : Option Pair)
    (h : ∀ n, debt = some n → ¬ (u = 0 ∧ pair = none) → ∀ q, ((s.change p x).booth q).holds n = false) :
    (s.change p x).sendOut p debt u pair = s.change p { x with
      entries := (departure x.entries p debt u pair).entries,
      records := x.records ++ (departure x.entries p debt u pair).records,
      dropped := x.dropped + (departure x.entries p debt u pair).dropped } := by
  rw [sendOut_eq_posts _ p debt u pair h, State.change_entries, State.change_posts, State.change_arrears]

end Sys2Proof.Machine

/-! ## Reply arrivals: the six steps one by one (R120) -/

namespace Sys2Proof.Machine

variable {s t : State} {p q : Position} {c : Instr} {r : Reply} {bytes : SlotBytes} {x : Change}

/-! ### The answer (R105, R120) -/

/-- Every command that brings a reply has the bytes of one (R175). -/
theorem encodeReply_of_replyOf (h : replyOf c = some (p, r)) : ∃ bytes, encodeReply c = some (p, bytes) := by
  cases c with
  | absent | ready | data | accepted | busy | written | error | unknownStatus =>
    obtain ⟨rfl, -⟩ := Prod.mk.inj (Option.some.inj h)
    exact ⟨_, rfl⟩
  | _ => exact nomatch h

theorem exec_eq_reply (hc : replyOf c = some (p, r)) (hb : encodeReply c = some (p, bytes)) :
    exec c s = .next (s.reply p r bytes) := by
  cases c with
  | absent | ready | data | accepted | busy | written | error | unknownStatus =>
    obtain ⟨rfl, rfl⟩ := Prod.mk.inj (Option.some.inj hc)
    obtain rfl := (Prod.mk.inj (Option.some.inj hb)).2
    rfl
  | _ => exact nomatch hc

/-- A reply that is taken goes through the six steps (R120). -/
theorem exec_reply (h : s.taking) (hc : replyOf c = some (p, r)) (hb : encodeReply c = some (p, bytes)) :
    exec c s = .next (((s.reach (replyIn p)).takeReply p (s.slot p).record r).answer p
      (upstream (s.slot p).record (((s.reach (replyIn p)).presenceStep p r).slot p).inFlight r bytes)) := by
  rw [exec_eq_reply hc hb, reply_of_taking p h r bytes]

/-- What an answer leaves of the port, the tables and the clocks (R105, R120). -/
theorem answer_rest (h : SameRest (s.reach (replyIn p)) t) (u : UpReply) :
    (t.answer p u).port = s.port.afterReply p u ∧ SameTables s (t.answer p u) ∧ SameClocks s (t.answer p u) ∧
      ((t.answer p u).slot p).record = none := by
  obtain ⟨tables, clocks, port⟩ := h
  refine ⟨?_, tables, clocks, ?_⟩
  · rw [answer_frame, port]
    rfl
  · exact congrArg Intercept.record (t.slot_setSlot_self p { t.slot p with record := none })

/-- `s` after a reply arrival at `p` that makes the change `x` there and shows the row controller `u`. -/
def State.repliedWith (s : State) (p : Position) (x : Change) (u : UpReply) : State :=
  { s.change p { x with slot := { x.slot with record := none } } with port := s.port.afterReply p u }

theorem change_answer (s : State) (p : Position) (x : Change) (u : UpReply) :
    ((s.reach (replyIn p)).change p x).answer p u = s.repliedWith p x u := by
  rw [answer_frame, State.change_slot, State.change_setSlot]
  rfl

/-- Records that follow a reply. -/
theorem repliedWith_records (s : State) (p : Position) (b : Booth) (c : Intercept) (r : Report) (u : UpReply) :
    s.repliedWith p { s.rewrite b c with records := [r] } u = (s.replied p b c u).place r := by
  rw [State.place_eq_queued]
  rfl

theorem repliedAt_repliedWith (s : State) (p : Position) (x : Change) (u : UpReply) :
    RepliedAt p u s (s.repliedWith p x u) := by
  obtain ⟨booths, slots, tables, clocks, -⟩ := localAt_change s p { x with slot := { x.slot with record := none } }
  exact ⟨booths, slots, tables, clocks, rfl, congrArg Intercept.record (State.change_slot s p _)⟩

@[simp] theorem repliedWith_booth (s : State) (p : Position) (x : Change) (u : UpReply) :
    (s.repliedWith p x u).booth p = x.booth := State.change_booth s p _

@[simp] theorem repliedWith_slot (s : State) (p : Position) (x : Change) (u : UpReply) :
    (s.repliedWith p x u).slot p = { x.slot with record := none } := State.change_slot s p _

/-- A reply whose five inner steps make the change `x` (R120). -/
theorem exec_reply_change (h : s.taking) (hc : replyOf c = some (p, r)) (hb : encodeReply c = some (p, bytes))
    (hx : (s.reach (replyIn p)).takeReply p (s.slot p).record r = (s.reach (replyIn p)).change p x) :
    exec c s = .next (s.repliedWith p x
      (upstream (s.slot p).record (((s.reach (replyIn p)).presenceStep p r).slot p).inFlight r bytes)) := by
  rw [exec_reply h hc hb, hx, change_answer]

/-! ### Steps 1 and 2 (R2, R126, R127) -/

/-- The part takes the reply of a card that it knows to be there, or of a reader in FAULT: step 1 has nothing to do. -/
def Booth.shown (b : Booth) : Prop := b.state = .fault ∨ b.present = .yes

theorem presenceStep_of_shown (h : (s.booth p).shown) (hr : r ≠ .absent) : s.presenceStep p r = s := by
  unfold State.presenceStep
  dsimp only
  by_cases hfault : (s.booth p).state = .fault
  · rw [if_pos hfault, if_neg hr]
  · rw [if_neg hfault, if_neg hr, if_pos (h.resolve_left hfault)]

/-- Steps 2 to 5 are all there is to the reply of a reader that shows its card (R120). -/
theorem takeReply_of_shown (h : (s.booth p).shown) (hr : r ≠ .absent) (sent : Option SlotRecord) :
    s.takeReply p sent r =
      ((if settles (s.slot p).inFlight r then s.recordStep p sent r
        else (s.recordStep p sent r).wordStep p (ownSlot sent) r).heldStep p (ownSlot sent) r).lockStep p
          (s.slot p).inFlight r := by
  unfold State.takeReply
  rw [presenceStep_of_shown h hr]

theorem settles_none (r : Reply) : settles none r = false := rfl

theorem lockStep_of_not_settled {k : Option InFlight} (h : settles k r = false) : s.lockStep p k r = s := by
  unfold State.lockStep
  rw [h]
  rfl

/-- A reply that opens no record and finds none has no second step (R124, R127). -/
theorem recordStep_of_idle (h : (s.slot p).inFlight = none) {sent : Option SlotRecord}
    (hr : ∀ w x a v, r = .accepted w → sent = some x → x.sent ≠ .write a v) : s.recordStep p sent r = s := by
  unfold State.recordStep
  rw [h]
  dsimp only
  split
  next w x =>
    split
    next a v hsent => exact absurd hsent (hr w x a v rfl rfl)
    all_goals rfl
  all_goals rfl

/-- With no record, a reply that opens none acts by its word and on the held request (R120). -/
theorem takeReply_of_idle (h : (s.booth p).shown) (hr : r ≠ .absent) (hidle : (s.slot p).inFlight = none)
    {sent : Option SlotRecord} (hopen : ∀ w x a v, r = .accepted w → sent = some x → x.sent ≠ .write a v) :
    s.takeReply p sent r = (s.wordStep p (ownSlot sent) r).heldStep p (ownSlot sent) r := by
  rw [takeReply_of_shown h hr, hidle, recordStep_of_idle hidle hopen, lockStep_of_not_settled (settles_none r)]
  rfl

/-! ### Steps 3 and 4 (R2, R53, R54) -/

/-- The reply carries no word to learn (R2, R61). -/
def Reply.wordless : Reply → Bool
  | .data a _ => a ≠ 0 ∧ a ≠ 1 ∧ a ≠ 4 ∧ a ≠ 6
  | .written a _ => a ≠ 4
  | _ => true

theorem wordStep_of_wordless (h : r.wordless = true) (own : Bool) : s.wordStep p own r = s := by
  unfold State.wordStep
  split
  · rfl
  cases r with
  | data a v =>
    obtain ⟨h0, h1, h4, h6⟩ := of_decide_eq_true h
    dsimp only
    rw [if_neg h0, if_neg h1, if_neg h4, if_neg h6]
  | written a v => exact if_neg (of_decide_eq_true h)
  | _ => rfl

theorem wordStep_of_fault (h : (s.booth p).state = .fault) (own : Bool) (r : Reply) : s.wordStep p own r = s := if_pos h

@[simp] theorem heldStep_of_row (s : State) (p : Position) (r : Reply) : s.heldStep p false r = s := rfl

theorem heldStep_of_none (h : (s.slot p).held = none) (own : Bool) (r : Reply) : s.heldStep p own r = s := by
  cases own with
  | false => rfl
  | true =>
    unfold State.heldStep
    rw [h]
    rfl

/-- Only DATA and ERROR act on a held request (R53, R54). -/
def Reply.sparesHeld : Reply → Bool
  | .data _ _ | .error | .unknown => false
  | _ => true

theorem heldStep_of_spared (h : r.sparesHeld = true) (own : Bool) : s.heldStep p own r = s := by
  cases own with
  | false => rfl
  | true =>
    unfold State.heldStep
    rw [if_pos rfl]
    cases (s.slot p).held with
    | none => rfl
    | some y =>
      have quiet : r.isError = false := by
        cases r with
        | error | unknown => exact nomatch h
        | _ => rfl
      dsimp only
      rw [quiet, if_neg Bool.false_ne_true]
      split
      · exact nomatch h
      · rfl

/-- What the DATA of word `a` leaves held (R53). -/
def Intercept.afterData (c : Intercept) (own : Bool) (a : WordAddr) : Intercept :=
  { c with held := if own = true ∧ c.held.map Held.request = some (.read a) then none else c.held }

theorem heldStep_data (s : State) (p : Position) (own : Bool) (a : WordAddr) (v : Word) :
    s.heldStep p own (.data a v) = s.setSlot p ((s.slot p).afterData own a) := by
  have same : ∀ d : Intercept, d = s.slot p → s = s.setSlot p d := fun d hd => hd ▸ (State.setSlot_slot s p).symm
  have held : ∀ o : Option Held, (s.slot p).held = o → { s.slot p with held := o } = s.slot p := by rintro _ rfl; rfl
  unfold Intercept.afterData
  cases own with
  | false => exact same _ (held _ rfl)
  | true =>
    unfold State.heldStep
    rw [if_pos rfl]
    cases hh : (s.slot p).held with
    | none => exact same _ (held _ (by simp [hh]))
    | some y =>
      obtain ⟨request, tries⟩ := y
      have quiet : (Reply.data a v).isError = false := rfl
      dsimp only
      rw [quiet, if_neg Bool.false_ne_true]
      cases request with
      | write w => exact same _ (held _ (by simp [hh]))
      | read w =>
        by_cases hw : w = a
        · simp [hw, State.dropHeld]
        · simp only [hw, if_false]
          exact same _ (held _ (by simp [hh, hw]))

/-! ### What the row controller is shown (R121 to R123) -/

/-- Every reply but ABSENT leaves the interception contexts to the later steps (R120). -/
theorem slots_presenceStep (hr : r ≠ .absent) : (s.presenceStep p r).slots = s.slots := by
  unfold State.presenceStep
  dsimp only
  rw [if_neg hr, if_neg hr]
  split
  · rfl
  split
  · rfl
  · exact slots_insertCard ..

theorem slot_presenceStep (hr : r ≠ .absent) : (s.presenceStep p r).slot q = s.slot q :=
  congrArg (fun v : Vector Intercept 24 => v[q]) (slots_presenceStep hr)

/-- With no own write of word 4 in flight nothing is shown as DEBITED (R123). -/
theorem debitedValue_eq_none {k : Option InFlight}
    (h : ∀ v x, r = .written 4 v → k = some x → x.word = 4 → x.origin ≠ .own) : debitedValue k r = none := by
  unfold debitedValue
  split
  next x a v =>
    refine if_neg fun hx => ?_
    obtain ⟨hword, rfl, horigin⟩ := hx
    exact h v x rfl rfl hword horigin
  · rfl

theorem debitedValue_own {x : InFlight} (hword : x.word = 4) (horigin : x.origin = .own) (v : Word) :
    debitedValue (some x) (.written 4 v) = some v.toNat := if_pos ⟨hword, rfl, horigin⟩

/-- A slot whose request the part neither killed nor made itself, and an own write that is not accepted, show what the
reader sent or DEBITED (R121 to R123). -/
theorem upstream_eq_shown {sent : Option SlotRecord} (k : Option InFlight) (bytes : SlotBytes)
    (h : ∀ q, sent = some q →
      q.treatment = .passed ∨ q.treatment = .converted ∨ q.treatment = .suppressed ∨
        ((∃ f, q.treatment = .inserted f) ∧ (∃ a v, q.sent = .write a v) ∧ ∀ w, r ≠ .accepted w)) :
    upstream sent k r bytes = shown k r bytes := by
  unfold upstream
  cases sent with
  | none => rfl
  | some q =>
    dsimp only
    rcases h q rfl with ht | ht | ht | ⟨⟨f, ht⟩, ⟨a, v, hs⟩, hr⟩
    · rw [ht]
    · rw [ht]
    · rw [ht]
    · rw [ht, hs]
      cases r with
      | accepted w => exact absurd rfl (hr w)
      | _ => rfl

/-- Settles O14. -/
theorem rowControllerIsShownTheRightReply : Obligations.RowControllerIsShownTheRightReply := by
  intro s p c r bytes htaking hc hb
  obtain ⟨port, -, -, record⟩ := answer_rest
    (sameRest_takeReply (s.reach (replyIn p)) p (s.slot p).record r)
    (upstream (s.slot p).record (((s.reach (replyIn p)).presenceStep p r).slot p).inFlight r bytes)
  refine ⟨_, _, exec_reply htaking hc hb, port, record, ?_, ?_, ?_, fun h => ?_⟩
  · intro q cause v hq hkilled
    rw [hq]
    exact upstream_killed q hkilled ..
  · intro q a f hq hinserted hsent
    rw [hq]
    unfold upstream
    dsimp only
    rw [hinserted, hsent]
  · intro q a v w f hq hinserted hsent hr
    rw [hq, hr]
    unfold upstream
    dsimp only
    rw [hinserted, hsent]
  · rw [upstream_eq_shown _ _ h]
    unfold shown
    have kept : ∀ v, r = .written 4 v → (((s.reach (replyIn p)).presenceStep p r).slot p).inFlight = (s.slot p).inFlight :=
      fun v hv => congrArg Intercept.inFlight (slot_presenceStep (by rw [hv]; nofun))
    constructor
    · intro v x hv hx hword horigin
      rw [kept v hv, hx, hv, debitedValue_own hword horigin]
    · intro hnone
      rw [debitedValue_eq_none fun v x hv hx => hnone v x hv ((kept v hv).symm.trans hx)]

/-! ### ERROR and unknown statuses (R54, R98) -/

/-- A status that is none of the seven acts as ERROR in every step (R98). -/
theorem takeReply_unknown (s : State) (p : Position) (sent : Option SlotRecord) :
    s.takeReply p sent .unknown = s.takeReply p sent .error := by
  have presence : s.presenceStep p .unknown = s.presenceStep p .error := rfl
  have record : ∀ t : State, t.recordStep p sent .unknown = t.recordStep p sent .error := by
    intro t
    unfold State.recordStep
    cases (t.slot p).inFlight <;> rfl
  have settled : ∀ k : Option InFlight, settles k .unknown = settles k .error := by
    intro k
    cases k <;> rfl
  have lock : ∀ (t : State) (k : Option InFlight), t.lockStep p k .unknown = t.lockStep p k .error := by
    intro t k
    cases k <;> rfl
  have held : ∀ t : State, t.heldStep p (ownSlot sent) .unknown = t.heldStep p (ownSlot sent) .error := by
    intro t
    unfold State.heldStep
    cases (t.slot p).held <;> rfl
  unfold State.takeReply
  rw [presence]
  dsimp only
  rw [record, settled, lock, held]
  rfl

/-- Settles O25: the two replies leave the same state but for what is shown. -/
theorem unknownStatusActsAsError : Obligations.UnknownStatusActsAsError := by
  intro s p bytes rest htaking
  have shownPort := fun u => answer_rest (sameRest_takeReply (s.reach (replyIn p)) p (s.slot p).record .error) u
  have unknown := exec_reply htaking (c := .unknownStatus p bytes) (p := p) rfl rfl
  have error := exec_reply htaking (c := .error p rest) (p := p) rfl rfl
  rw [slot_presenceStep (by nofun), takeReply_unknown] at unknown
  rw [slot_presenceStep (by nofun)] at error
  refine ⟨_, error, ?_, (shownPort _).1⟩
  rw [unknown, ← (shownPort _).1]
  rfl

end Sys2Proof.Machine

/-! ## Units that leave a booth: removal, FAULT entry and FAULT exit (R9, R18, R19, R70) -/

namespace Sys2Proof.Machine

variable {s t : State} {p q : Position} {x : Change}

/-! ### Units that leave touch no interception context (R70, R71) -/

theorem slots_addOwed (s : State) (p : Position) (n : Nat) : (s.addOwed p n).slots = s.slots := by
  unfold State.addOwed
  dsimp only
  split
  · rfl
  · exact slots_dropUnits ..

theorem slots_transferPair (s : State) (r : Position) (pair : Option Pair) : (s.transferPair r pair).slots = s.slots := by
  unfold State.transferPair
  split
  · rfl
  split
  · exact slots_dropUnits ..
  · exact slots_addOwed ..
  · rfl

theorem slots_clearSaturated (s : State) (p : Position) : (s.clearSaturated p).slots = s.slots := by
  unfold State.clearSaturated
  split
  · exact slots_enterClearing ..
  · rfl

theorem slots_transfer (s : State) (q r : Position) (serial u : Nat) (pair : Option Pair) :
    (s.transfer q r serial u pair).slots = s.slots := by
  have moved : ∀ t : State, ((t.addOwed r u).transferPair r pair).slots = t.slots := fun t =>
    (slots_transferPair ..).trans (slots_addOwed ..)
  unfold State.transfer
  dsimp only
  rw [slots_evaluate]
  split
  · rw [slots_clearSaturated, moved, State.place_slots, State.place_slots]
  · rw [moved, State.place_slots, State.place_slots]

theorem slots_sendOut (s : State) (p : Position) (debt : Option Nat) (u : Nat) (pair : Option Pair) :
    (s.sendOut p debt u pair).slots = s.slots := by
  unfold State.sendOut
  split
  · rfl
  split
  · unfold State.openArrears
    split
    · exact slots_transfer ..
    · rw [openInList_eq_posts, State.posts_slots]
  · rw [dropNoSerial_eq_posts, State.posts_slots]

theorem slot_sendOut (s : State) (p q : Position) (debt : Option Nat) (u : Nat) (pair : Option Pair) :
    (s.sendOut p debt u pair).slot q = s.slot q :=
  congrArg (fun v : Vector Intercept 24 => v[q]) (slots_sendOut s p debt u pair)

/-! ### Units that no other booth takes (R9, R70, R73 to R76) -/

/-- No booth but that of `p` holds the serial that these units are owed under. -/
def State.Unclaimed (s : State) (p : Position) (debt : Option Nat) (u : Nat) (pair : Option Pair) : Prop :=
  ∀ n, debt = some n → ¬ (u = 0 ∧ pair = none) → ∀ q, q ≠ p → (s.booth q).holds n = false

theorem unclaimed_nothing (s : State) (p : Position) (debt : Option Nat) : s.Unclaimed p debt 0 none :=
  fun _ _ h => absurd ⟨rfl, rfl⟩ h

theorem unclaimed_noSerial (s : State) (p : Position) (u : Nat) (pair : Option Pair) : s.Unclaimed p none u pair :=
  fun _ h => nomatch h

/-- The change by units that leave. -/
def Change.depart (x : Change) (p : Position) (debt : Option Nat) (u : Nat) (pair : Option Pair) : Change :=
  { x with
    entries := (departure x.entries p debt u pair).entries,
    records := x.records ++ (departure x.entries p debt u pair).records,
    dropped := x.dropped + (departure x.entries p debt u pair).dropped }

theorem State.change_depart {debt : Option Nat} {u : Nat} {pair : Option Pair} (hself : ∀ n, x.booth.holds n = false)
    (h : s.Unclaimed p debt u pair) :
    (s.change p x).sendOut p debt u pair = s.change p (x.depart p debt u pair) := by
  refine State.change_sendOut debt u pair fun n hn howed q => ?_
  by_cases hq : q = p
  · rw [hq, State.change_booth]
    exact hself n
  · rw [(localAt_change s p x).booths q hq]
    exact h n hn howed q hq

/-! ### Card removal (R9) -/

/-- The debt serial of a removal, with the one that a card change fixes (R8, R9). -/
def Booth.owedUnder (b : Booth) (fixed : Option Nat) : Option Nat :=
  match fixed with
  | some n => some n
  | none => b.debtSerial

/-- The booth after the state has followed a removal (R9). -/
def Booth.afterGone (b : Booth) (graceTime : Nat) : Booth :=
  match b.state with
  | .card => b.enterVacant
  | .call => { b with state := .grace, grace := graceTime * 10 }
  | _ => b

/-- The interception context that a removal leaves (R55, R118, R126). -/
def Intercept.emptied (c : Intercept) : Intercept := { c with inFlight := none, lock := 0, held := none }

theorem afterRemoval_eq (s : State) (p : Position) :
    s.afterRemoval p = s.setBooth p ((s.booth p).afterGone s.settings.graceTime) := by
  have same : s = s.setBooth p (s.booth p) := (State.setBooth_booth s p).symm
  unfold State.afterRemoval Booth.afterGone
  split
  next h => rw [h]; rfl
  next h => rw [h]; rfl
  all_goals next h => rw [h]; exact same

theorem removeCard_out (s : State) (p : Position) (fixed : Option Nat) :
    s.removeCard p fixed = ((((s.setBooth p (s.booth p).gone).setSlot p (s.slot p).emptied).sendOut p
      ((s.booth p).owedUnder fixed) (s.booth p).owed (outPair (s.slot p) (s.booth p))).afterRemoval p) := rfl

/-- A removal leaves its booth and its interception context as R9 says, wherever the units go. -/
theorem removeCard_position (s : State) (p : Position) (fixed : Option Nat) :
    (s.removeCard p fixed).booth p = (s.booth p).gone.afterGone s.settings.graceTime ∧
      (s.removeCard p fixed).slot p = (s.slot p).emptied := by
  have removed := booth_removed s p (s.slot p).emptied ((s.booth p).owedUnder fixed) (s.booth p).owed
    (outPair (s.slot p) (s.booth p))
  have rest := sameRest_sendOut ((s.setBooth p (s.booth p).gone).setSlot p (s.slot p).emptied) p
    ((s.booth p).owedUnder fixed) (s.booth p).owed (outPair (s.slot p) (s.booth p))
  have slot := slot_sendOut ((s.setBooth p (s.booth p).gone).setSlot p (s.slot p).emptied) p p
    ((s.booth p).owedUnder fixed) (s.booth p).owed (outPair (s.slot p) (s.booth p))
  rw [State.slot_setSlot_self] at slot
  rw [removeCard_out, afterRemoval_eq]
  refine ⟨?_, slot⟩
  rw [State.booth_setBooth_self, rest.settings]
  exact congrArg (Booth.afterGone · _) removed

/-- A removal whose units no other booth takes (R9). -/
theorem State.change_removeCard (fixed : Option Nat)
    (h : s.Unclaimed p (x.booth.owedUnder fixed) x.booth.owed (outPair x.slot x.booth)) :
    (s.change p x).removeCard p fixed = s.change p (({ x with
      booth := x.booth.gone.afterGone s.settings.graceTime, slot := x.slot.emptied } : Change).depart p
        (x.booth.owedUnder fixed) x.booth.owed (outPair x.slot x.booth)) := by
  have absent : ∀ n, x.booth.gone.holds n = false := Booth.holds_of_notPresent nofun
  have out := State.change_depart (x := { x with booth := x.booth.gone, slot := x.slot.emptied }) absent h
  rw [removeCard_out, State.change_booth, State.change_slot, State.change_setBooth, State.change_setSlot, out,
    afterRemoval_eq, State.change_booth, State.change_setBooth]
  rfl

/-! ### FAULT entry and exit (R18, R19, R151 to R153) -/

/-- The booth that has entered FAULT (R18). -/
def Booth.faulted (b : Booth) (hold : Nat) : Booth :=
  { b with serialHigh := none, serialLow := none, expected := none, known := none, present := .yes, owed := 0,
           pendingRes := none, state := .fault, grace := 0,
           timer := if b.callUp ∧ b.timer = none then some (.assert hold) else b.timer }

/-- The interception context that FAULT entry leaves (R151). -/
def Intercept.released (c : Intercept) : Intercept := { c with inFlight := none, held := none }

theorem enterFault_out (s : State) (p : Position) :
    s.enterFault p = (((((s.place (.atPosition .readerFault p)).setBooth p
      ((s.booth p).faulted (s.place (.atPosition .readerFault p)).settings.clearDownHold)).setSlot p
        (s.slot p).released).sendOut p (s.booth p).debtSerial (s.booth p).owed
          (outPair (s.slot p) (s.booth p))).placeIf (s.booth p).callUp (.clearDown p .readerFault)) := rfl

theorem State.placeIf_booth (s : State) (c : Bool) (r : Report) (q : Position) : (s.placeIf c r).booth q = s.booth q := by
  rw [State.placeIf_eq_posts, State.posts_booth]

theorem State.placeIf_slot (s : State) (c : Bool) (r : Report) (q : Position) : (s.placeIf c r).slot q = s.slot q := by
  rw [State.placeIf_eq_posts, State.posts_slot]

/-- FAULT entry leaves its booth and its interception context as R18 and R151 say, wherever the units go. -/
theorem enterFault_position (s : State) (p : Position) :
    (s.enterFault p).booth p = (s.booth p).faulted s.settings.clearDownHold ∧
      (s.enterFault p).slot p = (s.slot p).released := by
  have nothing : ∀ n, ((s.booth p).faulted s.settings.clearDownHold).holds n = false := Booth.holds_of_noHigh rfl
  rw [enterFault_out, State.place_settings, State.placeIf_booth, State.placeIf_slot, slot_sendOut]
  refine ⟨?_, State.slot_setSlot_self ..⟩
  refine (booth_sendOut_of_holdless ?_ ..).trans (State.booth_setBooth_self ..)
  rw [State.setSlot_booth, State.booth_setBooth_self]
  exact nothing

/-- FAULT entry whose units no other booth takes (R18, R151). -/
theorem State.change_enterFault (h : s.Unclaimed p x.booth.debtSerial x.booth.owed (outPair x.slot x.booth)) :
    (s.change p x).enterFault p =
      (s.change p (({ x with booth := x.booth.faulted s.settings.clearDownHold,
                             slot := x.slot.released,
                             records := x.records ++ [.atPosition .readerFault p] } : Change).depart p
        x.booth.debtSerial x.booth.owed (outPair x.slot x.booth))).placeIf x.booth.callUp (.clearDown p .readerFault) := by
  have nothing : ∀ n, (x.booth.faulted s.settings.clearDownHold).holds n = false := Booth.holds_of_noHigh rfl
  have out := State.change_depart (x := { x with
    booth := x.booth.faulted s.settings.clearDownHold, slot := x.slot.released,
    records := x.records ++ [.atPosition .readerFault p] }) nothing h
  rw [enterFault_out, State.change_booth, State.change_slot, State.change_place, State.change_setBooth,
    State.change_setSlot, State.change_settings, out]

/-- The booth that has left FAULT (R19). -/
def Booth.leftFault (b : Booth) : Booth :=
  ({ b.forgetCard with present := .no, owed := 0, rate := none, fraction := 0, callUp := false, lastSerial := none,
                       timer := none } : Booth).enterVacant

theorem leaveFault_out (s : State) (p : Position) :
    s.leaveFault p = (((((s.setBooth p { (s.booth p).forgetCard with present := .no, owed := 0 }).setSlot p
      (s.slot p).emptied).sendOut p (s.booth p).lastSerial (s.booth p).owed none).placeIf (s.booth p).callUp
        (.callEnd p (s.booth p))).onBooth p fun b =>
          { b with rate := none, fraction := 0, callUp := false, lastSerial := none, timer := none }.enterVacant) := rfl

/-- FAULT exit leaves its booth and its interception context as R19 says, wherever the units go. -/
theorem leaveFault_position (s : State) (p : Position) :
    (s.leaveFault p).booth p = (s.booth p).leftFault ∧ (s.leaveFault p).slot p = (s.slot p).emptied := by
  have absent : ∀ n, ({ (s.booth p).forgetCard with present := .no, owed := 0 } : Booth).holds n = false :=
    Booth.holds_of_notPresent nofun
  have kept := (booth_sendOut_of_holdless (q := p) (s := (s.setBooth p
    { (s.booth p).forgetCard with present := .no, owed := 0 }).setSlot p (s.slot p).emptied) (by
      rw [State.setSlot_booth, State.booth_setBooth_self]
      exact absent) p (s.booth p).lastSerial (s.booth p).owed none)
  rw [leaveFault_out, State.onBooth_eq, State.booth_setBooth_self, State.setBooth_slot, State.placeIf_booth,
    State.placeIf_slot, slot_sendOut, kept, State.setSlot_booth, State.booth_setBooth_self]
  exact ⟨rfl, State.slot_setSlot_self ..⟩

/-- FAULT exit whose units no other booth takes (R19). -/
theorem State.change_leaveFault (h : s.Unclaimed p x.booth.lastSerial x.booth.owed none) :
    (s.change p x).leaveFault p =
      ((s.change p (({ x with booth := x.booth.leftFault, slot := x.slot.emptied } : Change).depart p
        x.booth.lastSerial x.booth.owed none)).placeIf x.booth.callUp (.callEnd p x.booth)) := by
  have absent : ∀ n, ({ x.booth.forgetCard with present := .no, owed := 0 } : Booth).holds n = false :=
    Booth.holds_of_notPresent nofun
  have out := State.change_depart (x := { x with
    booth := { x.booth.forgetCard with present := .no, owed := 0 }, slot := x.slot.emptied }) absent h
  rw [leaveFault_out, State.change_booth, State.change_slot, State.change_setBooth, State.change_setSlot, out,
    State.change_placeIf, State.change_placeIf, State.onBooth_eq, State.change_booth, State.change_setBooth]
  rfl

end Sys2Proof.Machine

/-! ## Replies at a position whose reader is idle, and balances learned (R53 to R63, R95, R126, R127) -/

namespace Sys2Proof.Machine

variable {s t : State} {p q : Position} {c : Instr} {r : Reply} {bytes : SlotBytes} {x : Change}

/-! ### The bytes shown (R175) -/

theorem replyBytes_words_append (status : Byte) (a : WordAddr) (v : Word) (last : Byte) :
    replyBytes status (a ++ v ++ last) = (status ++ (0 : BitVec 4)) ++ a ++ v ++ last := by
  have outer : (status ++ (0 : BitVec 4)) ++ a ++ v ++ last = ((status ++ (0 : BitVec 4)) ++ a ++ v) ++ last := rfl
  have inner : (status ++ (0 : BitVec 4)) ++ a ++ v = (status ++ (0 : BitVec 4)) ++ (a ++ v) := BitVec.append_assoc
  have whole : (status ++ (0 : BitVec 4)) ++ (a ++ v) ++ last = (status ++ (0 : BitVec 4)) ++ ((a ++ v) ++ last) :=
    BitVec.append_assoc
  rw [inner, whole]
  rfl

theorem replyBytes_word_append (status : Byte) (a : WordAddr) (rest : BitVec 24) :
    replyBytes status (a ++ rest) = (status ++ (0 : BitVec 4)) ++ a ++ rest := by
  have whole : (status ++ (0 : BitVec 4)) ++ a ++ rest = (status ++ (0 : BitVec 4)) ++ (a ++ rest) := BitVec.append_assoc
  exact whole.symm

/-! ### Replies that make no change (R120) -/

/-- A reply at a reader that shows its card, with no record and nothing to learn, to hold or to open. -/
theorem exec_reply_of_change (htaking : s.taking) (hshown : (s.booth p).shown) (hr : r ≠ .absent)
    (hc : replyOf c = some (p, r)) (hb : encodeReply c = some (p, bytes))
    (hx : (s.reach (replyIn p)).takeReply p (s.slot p).record r = (s.reach (replyIn p)).change p x) :
    exec c s = .next (s.repliedWith p x (upstream (s.slot p).record (s.slot p).inFlight r bytes)) := by
  rw [exec_reply_change htaking hc hb hx, presenceStep_of_shown (s := s.reach (replyIn p)) hshown hr]
  rfl

theorem ownSlot_eq (sent : Option SlotRecord) : ownSlot sent = decide (sent.map SlotRecord.origin = some .own) := by
  cases sent with
  | none => rfl
  | some q => simp [ownSlot]

theorem ownSlot_of_row (h : s.rowSlot p) : ownSlot (s.slot p).record = false := by
  rw [ownSlot_eq]
  exact decide_eq_false h

theorem ownSlot_of_own (h : ¬ s.rowSlot p) : ownSlot (s.slot p).record = true := by
  rw [ownSlot_eq]
  exact decide_eq_true (Decidable.not_not.mp h)

theorem idle_opens_nothing {sent : Option SlotRecord} (hr : ∀ w, r ≠ .accepted w) :
    ∀ w x a v, r = .accepted w → sent = some x → x.sent ≠ .write a v := fun w _ _ _ h => absurd h (hr w)

/-! ### ERROR (R54, R98, R150) -/

/-- One more try on a held request. -/
def Held.tried (h : Held) : Held := { h with tries := min Config.ownTries (h.tries + 1) }

theorem heldStep_error {y : Held} (hh : (s.slot p).held = some y) :
    s.heldStep p true .error =
      if 3 ≤ y.tries + 1 then (s.setSlot p { s.slot p with held := some y.tried }).declareFault p
      else s.setSlot p { s.slot p with held := some y.tried } := by
  unfold State.heldStep
  rw [if_pos rfl, hh]
  rfl

/-- FAULT entry leaves the position in FAULT, with nothing held and its lock as it was (R151, R152). -/
theorem declareFault_position (s : State) (p : Position) (h : (s.booth p).state ≠ .fault) :
    ((s.declareFault p).booth p).state = .fault ∧ ((s.declareFault p).slot p).held = none ∧
      ((s.declareFault p).slot p).lock = (s.slot p).lock := by
  obtain ⟨booth, slot⟩ := enterFault_position s p
  unfold State.declareFault
  rw [if_neg h, booth, slot]
  exact ⟨rfl, rfl, rfl⟩

theorem answer_slot (s : State) (p : Position) (u : UpReply) :
    (s.answer p u).slot p = { s.slot p with record := none } := s.slot_setSlot_self p _

theorem State.setSlot_eq_change (s : State) (p : Position) (c : Intercept) :
    s.setSlot p c = s.change p (s.rewrite (s.booth p) c) := by
  conv_lhs => rw [s.change_self p, State.change_setSlot]
  rfl

theorem State.setBooth_eq_change (s : State) (p : Position) (b : Booth) :
    s.setBooth p b = s.change p (s.rewrite b (s.slot p)) := by
  conv_lhs => rw [s.change_self p, State.change_setBooth]
  rfl

theorem takeReply_error (hshown : (s.booth p).shown) (hidle : (s.slot p).inFlight = none) (sent : Option SlotRecord) :
    s.takeReply p sent .error = s.heldStep p (ownSlot sent) .error := by
  rw [takeReply_of_idle hshown (by nofun) hidle (idle_opens_nothing (by nofun)), wordStep_of_wordless rfl]

/-- Settles O23. -/
theorem thirdErrorOnAHeldRequestIsAFault : Obligations.ThirdErrorOnAHeldRequestIsAFault := by
  intro s p y rest ⟨htaking, hfault, hpresent⟩ hidle hheld b c u
  have hshown : (s.booth p).shown := .inr hpresent
  have steps := takeReply_error (s := s.reach (replyIn p)) hshown hidle (s.slot p).record
  refine ⟨fun hrow => ?_, fun hown htries => ?_, fun hown htries => ?_⟩
  · rw [ownSlot_of_row hrow, heldStep_of_row] at steps
    have replied := exec_reply_of_change (c := .error p rest) htaking hshown (by nofun) rfl rfl
      (steps.trans (State.change_self _ p))
    rw [hidle] at replied
    exact replied
  · rw [ownSlot_of_own hown, heldStep_error (s := s.reach (replyIn p)) hheld, if_neg (Nat.not_le.mpr htries), State.setSlot_eq_change] at steps
    have replied := exec_reply_of_change (c := .error p rest) htaking hshown (by nofun) rfl rfl steps
    have tried : y.tried = { y with tries := y.tries + 1 } := by
      rw [Held.tried, Nat.min_eq_right (Nat.le_of_lt htries)]
    rw [hidle, tried] at replied
    exact replied
  · rw [ownSlot_of_own hown, heldStep_error (s := s.reach (replyIn p)) hheld, if_pos htries] at steps
    have replied := exec_reply htaking (c := .error p rest) (p := p) rfl rfl
    rw [presenceStep_of_shown (s := s.reach (replyIn p)) hshown (by nofun)] at replied
    obtain ⟨port, -, -, -⟩ := answer_rest (sameRest_takeReply (s.reach (replyIn p)) p (s.slot p).record .error) u
    rw [steps] at replied port
    obtain ⟨state, none, lock⟩ := declareFault_position ((s.reach (replyIn p)).setSlot p
      { s.slot p with held := some y.tried }) p hfault
    refine ⟨_, replied, state, ?_, ?_, ?_⟩
    · rw [answer_slot]
      exact none
    · rw [answer_slot]
      refine lock.trans ?_
      rw [State.slot_setSlot_self]
    · rw [show (s.reach (replyIn p)).slot p = s.slot p from rfl, hidle]
      exact port

/-! ### DATA (R2, R32, R53, R55) -/

/-- The DATA of an idle reader acts by its word and releases a held READ of it (R53). -/
theorem takeReply_data (hshown : (s.booth p).shown) (hidle : (s.slot p).inFlight = none) (sent : Option SlotRecord)
    (a : WordAddr) (v : Word) :
    s.takeReply p sent (.data a v) =
      (s.wordStep p (ownSlot sent) (.data a v)).setSlot p
        (((s.wordStep p (ownSlot sent) (.data a v)).slot p).afterData (ownSlot sent) a) := by
  rw [takeReply_of_idle hshown (by nofun) hidle (idle_opens_nothing (by nofun)), heldStep_data]

/-- The DATA of an idle reader whose word makes the change `x`. -/
theorem exec_data (h : s.cardHere p) (hidle : (s.slot p).inFlight = none) {a : WordAddr} {v : Word} (last : Byte)
    (hx : (s.reach (replyIn p)).wordStep p (ownSlot (s.slot p).record) (.data a v) = (s.reach (replyIn p)).change p x) :
    exec (.data p a v last) s = .next (s.repliedWith p { x with slot := x.slot.afterData (ownSlot (s.slot p).record) a }
      (upstream (s.slot p).record none (.data a v) ((0x120 : BitVec 12) ++ a ++ v ++ last))) := by
  obtain ⟨htaking, -, hpresent⟩ := h
  have hshown : (s.booth p).shown := .inr hpresent
  have steps := takeReply_data (s := s.reach (replyIn p)) hshown hidle (s.slot p).record a v
  rw [hx, State.change_slot, State.change_setSlot] at steps
  have replied := exec_reply_of_change (c := .data p a v last) htaking hshown (by nofun) rfl rfl steps
  rw [hidle, replyBytes_words_append] at replied
  exact replied

theorem Intercept.afterData_eq (c : Intercept) (sent : Option SlotRecord) (a : WordAddr) :
    c.afterData (ownSlot sent) a = { c with
      held := if decide (sent.map SlotRecord.origin = some .own) = true ∧
        decide (c.held.map Held.request = some (.read a)) = true then none else c.held } := by
  rw [ownSlot_eq]
  unfold Intercept.afterData
  simp only [decide_eq_true_eq]

/-- The interception context once a word is known: a READ held for it goes (R55). -/
def Intercept.withoutRead (c : Intercept) (a : WordAddr) : Intercept :=
  { c with held := if c.held.map Held.request = some (.read a) then none else c.held }

theorem dropHeldRead_eq (s : State) (p : Position) (a : WordAddr) :
    s.dropHeldRead p a = s.setSlot p ((s.slot p).withoutRead a) := by
  unfold State.dropHeldRead Intercept.withoutRead
  rw [State.onSlot_eq]
  split <;> rfl

theorem Intercept.withoutRead_afterData (c : Intercept) (own : Bool) (a : WordAddr) :
    (c.withoutRead a).afterData own a = c.withoutRead a := by
  unfold Intercept.afterData Intercept.withoutRead
  by_cases h : c.held.map Held.request = some (.read a)
  · simp [h]
  · simp [h]

/-- A half that is known already changes nothing (R2). -/
theorem readHalf_of_same {high : Bool} {v : Nat}
    (h : (if high then (s.booth p).serialHigh else (s.booth p).serialLow) = some v) : s.readHalf p high v = s := by
  unfold State.readHalf
  rw [h]
  exact if_pos rfl

/-- A half that leaves the other unknown is all that a card is known by (R2). -/
theorem change_readHalf {high : Bool} {v : Nat}
    (hself : (if high then x.booth.serialHigh else x.booth.serialLow) = none)
    (hother : (if high then x.booth.serialLow else x.booth.serialHigh) = none) :
    (s.change p x).readHalf p high v = s.change p { x with
      booth := x.booth.withHalf high v, slot := x.slot.withoutRead (if high then 0 else 1) } := by
  have unknown : (x.booth.withHalf high v).serial = none := by
    cases high with
    | true => simp only [Booth.serial, Booth.withHalf, if_true] at hother ⊢; rw [hother]
    | false => simp only [Booth.serial, Booth.withHalf, Bool.false_eq_true, if_false] at hother ⊢; rw [hother]
  unfold State.readHalf
  rw [State.change_booth, hself]
  dsimp only
  rw [State.onBooth_eq, State.change_booth, State.change_setBooth, dropHeldRead_eq, State.change_slot,
    State.change_setSlot]
  unfold State.identify
  rw [State.change_booth]
  dsimp only
  rw [unknown]

/-- Settles O20. -/
theorem dataSetsBandAndSerialHalf : Obligations.DataSetsBandAndSerialHalf := by
  intro s p a v last hhere hidle b readIt own u c c'
  have hfault : ((s.reach (replyIn p)).booth p).state ≠ .fault := hhere.2.1
  have self := State.change_self (s.reach (replyIn p)) p
  have kept : (s.slot p).afterData (ownSlot (s.slot p).record) a = c := Intercept.afterData_eq ..
  have known : (s.slot p).withoutRead a = c' := by
    simp only [Intercept.withoutRead, c', readIt, decide_eq_true_eq]
  have quiet : (s.reach (replyIn p)).wordStep p (ownSlot (s.slot p).record) (.data a v) = s.reach (replyIn p) →
      exec (.data p a v last) s = .next (s.replied p b c u) := by
    intro hquiet
    refine (exec_data hhere hidle last (hquiet.trans self)).trans ?_
    exact congrArg (fun d => Host.Outcome.next (s.replied p b d u)) kept
  have half : ∀ high, a = (if high then 0 else 1) →
      (if high then b.serialHigh else b.serialLow) = none → (if high then b.serialLow else b.serialHigh) = none →
      exec (.data p a v last) s = .next (s.replied p (b.withHalf high v.toNat) c' u) := by
    intro high ha hself hother
    have word : (s.reach (replyIn p)).wordStep p (ownSlot (s.slot p).record) (.data a v) =
        (s.reach (replyIn p)).readHalf p high v.toNat := by
      unfold State.wordStep
      rw [if_neg hfault, ha]
      cases high <;> rfl
    have read := change_readHalf (s := s.reach (replyIn p)) (p := p) (x := (s.reach (replyIn p)).rewrite b (s.slot p))
      (v := v.toNat) hself hother
    have read' := (congrArg (fun t : State => t.readHalf p high v.toNat) self).trans read
    refine (exec_data hhere hidle last (word.trans read')).trans ?_
    rw [← ha, Intercept.withoutRead_afterData]
    exact congrArg (fun d => Host.Outcome.next (s.replied p (b.withHalf high v.toNat) d u)) known
  refine ⟨?_, fun h0 h1 h4 h6 => ?_, ?_, ?_, ?_, ?_⟩
  · rintro rfl
    have word : (s.reach (replyIn p)).wordStep p (ownSlot (s.slot p).record) (.data 6 v) =
        (s.reach (replyIn p)).setBooth p { b with band := some (s.bandOf v) } := if_neg hfault
    refine (exec_data hhere hidle last (word.trans (State.setBooth_eq_change ..))).trans ?_
    exact congrArg (fun d => Host.Outcome.next (s.replied p { b with band := some (s.bandOf v) } d u)) kept
  · exact quiet (wordStep_of_wordless (r := .data a v) (decide_eq_true ⟨h0, h1, h4, h6⟩) _)
  · rintro rfl hknown
    exact quiet ((if_neg hfault).trans (readHalf_of_same hknown))
  · rintro rfl hknown
    exact quiet ((if_neg hfault).trans (readHalf_of_same hknown))
  · exact fun ha hhigh hlow => half true ha hhigh hlow
  · exact fun ha hlow hhigh => half false ha hlow hhigh

end Sys2Proof.Machine

/-! ## Writes in flight and balances learned (R58 to R63, R95, R124, R126, R127) -/

namespace Sys2Proof.Machine

variable {s t : State} {p q : Position} {c : Instr} {r : Reply} {bytes : SlotBytes} {x : Change}

/-! ### Evaluated booths (R3, R12, R14) -/

/-- An evaluation moves the state and the grace countdown only (R12, R14). -/
theorem Booth.evaluated_frame (b : Booth) (c : Intercept) (graceTime : Nat) :
    ∃ state grace, b.evaluated c graceTime = { b with state := state, grace := grace } := by
  unfold Booth.evaluated
  split
  · exact ⟨_, _, rfl⟩
  · dsimp only
    split
    · exact ⟨_, _, rfl⟩
    split
    · exact ⟨_, _, rfl⟩
    · exact ⟨_, _, rfl⟩

theorem Booth.evaluated_of_known {b : Booth} {n : Nat} (h : b.known = some n) (c : Intercept) (graceTime : Nat) :
    b.evaluated c graceTime =
      if b.state = .call ∧ (n : Int) - b.owed - c.k - pairK b.pendingRes ≤ 0 then
        { b with state := .grace, grace := graceTime * 10 }
      else if b.state = .grace ∧ b.present = .yes ∧ b.serialHigh.isSome ∧ b.serialLow.isSome ∧
          0 < (n : Int) - b.owed - c.k - pairK b.pendingRes then
        { b with state := .call, grace := 0 }
      else b := by
  unfold Booth.evaluated
  rw [h]

/-- A second evaluation has nothing more to do (R3). -/
theorem Booth.evaluated_evaluated (b : Booth) (c : Intercept) (graceTime : Nat) :
    (b.evaluated c graceTime).evaluated c graceTime = b.evaluated c graceTime := by
  cases hk : b.known with
  | none => simp [Booth.evaluated, hk]
  | some n =>
    rw [Booth.evaluated_of_known hk]
    split
    next hcall =>
      rw [Booth.evaluated_of_known (by exact hk), if_neg (fun h => nomatch h.1), if_neg]
      rintro ⟨-, -, -, -, hcredit⟩
      exact absurd hcredit (Int.not_lt.mpr hcall.2)
    split
    next hgrace =>
      obtain ⟨-, -, -, -, hcredit⟩ := hgrace
      rw [Booth.evaluated_of_known (by exact hk), if_neg (fun h => absurd hcredit (Int.not_lt.mpr h.2)),
        if_neg (fun h => nomatch h.1)]
    next hcall hgrace => rw [Booth.evaluated_of_known hk, if_neg hcall, if_neg hgrace]

theorem Booth.evaluated_of_unknown {b : Booth} (h : b.known = none) (c : Intercept) (graceTime : Nat) :
    b.evaluated c graceTime = b := by
  unfold Booth.evaluated
  rw [h]

/-- Evaluating does not change what it looks at: available credit (R3). -/
theorem credit_evaluated (b : Booth) (c d : Intercept) (graceTime : Nat) :
    credit (b.evaluated c graceTime) d = credit b d := by
  obtain ⟨_, _, moved⟩ := b.evaluated_frame c graceTime
  rw [moved]
  rfl

/-- Units that pass from W into a record leave credit as it was (R3, R59). -/
theorem credit_covered {b : Booth} {c d : Intercept} {k : Nat} (hd : d.k = k) (hc : c.k = 0) (hk : k ≤ b.owed) :
    credit { b with owed := b.owed - k } d = credit b c := by
  unfold credit
  cases b.known with
  | none => rfl
  | some n =>
    refine congrArg some ?_
    dsimp only
    omega

/-! ### ACCEPTED (R58, R59, R124) -/

/-- The prior balance and the covered units of an accepted write, as R58 and R59 tell them. -/
theorem acceptedPair_eq (b : Booth) (r : SlotRecord) (a : WordAddr) (v : Nat) :
    acceptedPair b r a v = (if a = 4 then b.known else none, if a = 4 then
      (match b.known with
        | none => 0
        | some n => if r.origin = .own then n - v else if r.treatment = .converted then 0 else min b.owed (n - v))
      else 0) := by
  unfold acceptedPair
  by_cases ha : a = 4
  · rw [if_neg (not_not.mpr ha), if_pos ha, if_pos ha]
    cases b.known with
    | none => rfl
    | some n =>
      dsimp only
      cases r.origin with
      | own => rfl
      | row =>
        by_cases hconverted : r.treatment = .converted
        · rw [hconverted]; rfl
        · rw [if_neg nofun, if_neg hconverted]
          split
          · exact nomatch ‹Origin.row = .own›
          · exact absurd ‹_› hconverted
          · rfl
  · rw [if_pos ha, if_neg ha, if_neg ha]

/-- The record that an accepted write opens (R58). -/
def SlotRecord.accepted (r : SlotRecord) (b : Booth) (a : WordAddr) (v : Nat) : InFlight :=
  { origin := r.origin, word := a, value := v, prior := (acceptedPair b r a v).1, k := (acceptedPair b r a v).2, frames := 0 }

/-- The interception context once a write is accepted (R58, R124). -/
def Intercept.withAccepted (c : Intercept) (r : SlotRecord) (b : Booth) (a : WordAddr) (v : Nat) : Intercept :=
  { c with inFlight := some (r.accepted b a v), held := if r.origin = .own then none else c.held }

theorem State.change_openRecord (r : SlotRecord) (a : WordAddr) (v : Nat) :
    (s.change p x).openRecord p r a v = s.change p { x with
      booth := ({ x.booth with owed := x.booth.owed - (acceptedPair x.booth r a v).2 } : Booth).evaluated
        (x.slot.withAccepted r x.booth a v) s.settings.graceTime,
      slot := x.slot.withAccepted r x.booth a v } := by
  unfold State.openRecord
  rw [State.change_booth]
  dsimp only
  rw [State.onBooth_eq, State.change_booth, State.change_setBooth, State.onSlot_eq, State.change_slot,
    State.change_setSlot, State.change_evaluate]
  rfl

theorem takeReply_accepted (hshown : (s.booth p).shown) (hidle : (s.slot p).inFlight = none) {y : SlotRecord}
    {a : WordAddr} {v : Nat} (hsent : y.sent = .write a v) (w : WordAddr) :
    s.takeReply p (some y) (.accepted w) = s.openRecord p y a v := by
  have record : s.recordStep p (some y) (.accepted w) = s.openRecord p y a v := by
    unfold State.recordStep
    rw [hidle]
    dsimp only
    rw [hsent]
  rw [takeReply_of_shown hshown (by nofun), hidle, lockStep_of_not_settled rfl, if_neg (by simp [settles]), record,
    wordStep_of_wordless rfl, heldStep_of_spared rfl]

theorem takeReply_accepted_unsent (hshown : (s.booth p).shown) (hidle : (s.slot p).inFlight = none)
    {sent : Option SlotRecord} (hnone : ∀ r a v, sent = some r → r.sent ≠ .write a v) (w : WordAddr) :
    s.takeReply p sent (.accepted w) = s := by
  rw [takeReply_of_idle hshown (by nofun) hidle fun _ y a v _ hy => hnone y a v hy, wordStep_of_wordless rfl,
    heldStep_of_spared rfl]

/-- Settles O17. -/
theorem acceptedMovesCoveredUnitsOutOfW : Obligations.AcceptedMovesCoveredUnitsOutOfW := by
  intro s p w rest htaking hshown hidle b c
  have replied := fun {x} => exec_reply_of_change (c := .accepted p w rest) (x := x) htaking hshown (by nofun) rfl rfl
  rw [hidle, replyBytes_word_append] at replied
  constructor
  · intro r a v hr hsent prior k c'
    have pair : acceptedPair b r a v = (prior, k) := acceptedPair_eq ..
    have context : { c.withAccepted r b a v with record := none } = c' := by
      simp only [Intercept.withAccepted, SlotRecord.accepted, pair, c']
    have opened := (takeReply_accepted (s := s.reach (replyIn p)) hshown hidle hsent w).trans
      ((congrArg (fun t : State => t.openRecord p r a v) (State.change_self _ p)).trans (State.change_openRecord r a v))
    rw [← hr] at opened
    have booth : (({ b with owed := b.owed - (acceptedPair b r a v).2 } : Booth).evaluated (c.withAccepted r b a v)
        s.settings.graceTime) = ({ b with owed := b.owed - k } : Booth).evaluated c' s.settings.graceTime := by
      rw [pair, ← context]
      rfl
    refine ⟨_, _, replied opened, repliedAt_repliedWith .., ?_, ?_, ?_, ⟨rfl, rfl⟩, rfl, rfl⟩
    · exact (repliedWith_slot ..).trans context
    · exact (repliedWith_booth ..).trans booth
    · intro hk
      rw [State.credit, repliedWith_slot, repliedWith_booth]
      refine (congrArg₂ credit booth context).trans ?_
      rw [credit_evaluated, State.credit]
      refine credit_covered rfl ?_ hk
      unfold Intercept.k
      rw [hidle]
  · intro hnone
    have quiet := takeReply_accepted_unsent (s := s.reach (replyIn p)) hshown hidle hnone w
    exact replied (quiet.trans (State.change_self _ p))

end Sys2Proof.Machine

/-! ## Balances learned and records settled (R2, R60 to R63, R95, R126) -/

namespace Sys2Proof.Machine

variable {s t : State} {p q : Position} {c : Instr} {r : Reply} {bytes : SlotBytes} {x : Change}

/-! ### A balance learned (R2, R55, R62) -/

/-- The interception context once the balance has changed: a held own WRITE goes, and a held READ of word 4 where other
traffic than the part's own brought the change (R2, R55). -/
def Intercept.afterBalance (c : Intercept) (own : Bool) : Intercept :=
  { c with held := if c.held.any Held.isWrite ∨ (c.held.map Held.request = some (.read 4) ∧ own = false) then none
                   else c.held }

theorem dropHeldWrite_eq (s : State) (p : Position) :
    s.dropHeldWrite p = s.setSlot p ((s.slot p).afterBalance true) := by
  unfold State.dropHeldWrite Intercept.afterBalance
  rw [State.onSlot_eq]
  simp only [Bool.true_eq_false, and_false, or_false]
  split <;> rfl

theorem Intercept.afterBalance_withoutRead (c : Intercept) : (c.withoutRead 4).afterBalance true = c.afterBalance false := by
  unfold Intercept.afterBalance Intercept.withoutRead
  by_cases h : c.held.map Held.request = some (.read 4)
  · simp [h]
  · simp only [h, if_false, false_and, or_false]

/-- The units that a pending resolution gives back at the balance `n`, 0 without one (R62). -/
def Booth.extraUnits (b : Booth) (n : Nat) : Nat :=
  match b.pendingRes with
  | some q => q.extra n
  | none => 0

/-- A known balance settles the pending resolution, and credit is evaluated (R62). -/
theorem State.change_settle {n : Nat} (hn : x.booth.known = some n) (hfits : x.booth.owed + x.booth.extraUnits n ≤ 65535) :
    ((s.change p x).settlePending p).evaluate p = s.change p { x with
      booth := ({ x.booth with owed := x.booth.owed + x.booth.extraUnits n, pendingRes := none } : Booth).evaluated x.slot
        s.settings.graceTime,
      debited := x.debited + (pairK x.booth.pendingRes - x.booth.extraUnits n) } := by
  cases hq : x.booth.pendingRes with
  | none =>
    have units : x.booth.extraUnits n = 0 := by
      unfold Booth.extraUnits
      rw [hq]
    rw [settlePending_of_none (by rw [State.change_booth, hq]), State.change_evaluate, units,
      show pairK none - 0 = 0 from rfl, ← hq]
    rfl
  | some q =>
    have units : x.booth.extraUnits n = q.extra n := by
      unfold Booth.extraUnits
      rw [hq]
    rw [units] at hfits ⊢
    rw [State.change_settlePending hq hn, State.change_charge, Change.charge_of_fits _ _ _ (by exact hfits),
      State.change_evaluate, State.change_evaluate]
    dsimp only
    rw [Booth.evaluated_evaluated]
    rfl

/-- The known balance changes (R2). -/
theorem State.change_setKnown {n : Nat} (hn : x.booth.known ≠ some n) (hfits : x.booth.owed + x.booth.extraUnits n ≤ 65535) :
    (s.change p x).setKnown p n = s.change p { x with
      booth := ({ x.booth with known := some n, owed := x.booth.owed + x.booth.extraUnits n, pendingRes := none } :
        Booth).evaluated (x.slot.afterBalance true) s.settings.graceTime,
      slot := x.slot.afterBalance true,
      debited := x.debited + (pairK x.booth.pendingRes - x.booth.extraUnits n) } := by
  unfold State.setKnown
  rw [State.change_booth, if_neg hn, State.onBooth_eq, State.change_booth, State.change_setBooth, dropHeldWrite_eq,
    State.change_slot, State.change_setSlot]
  exact State.change_settle (n := n) rfl hfits

/-- A reply changes the known balance (R2, R55, R62). -/
theorem State.change_learnBalance {n : Nat} (own : Bool) (hn : x.booth.known ≠ some n)
    (hfits : x.booth.owed + x.booth.extraUnits n ≤ 65535) :
    (s.change p x).learnBalance p n own = s.change p { x with
      booth := ({ x.booth with known := some n, owed := x.booth.owed + x.booth.extraUnits n, pendingRes := none } :
        Booth).evaluated (x.slot.afterBalance own) s.settings.graceTime,
      slot := x.slot.afterBalance own,
      debited := x.debited + (pairK x.booth.pendingRes - x.booth.extraUnits n) } := by
  cases own with
  | true =>
    rw [learnBalance_own]
    exact State.change_setKnown hn hfits
  | false =>
    have unknown : ¬ (false = true ∨ (s.change p x |>.booth p).known = some n) := by
      rw [State.change_booth]
      exact fun h => h.elim Bool.noConfusion hn
    unfold State.learnBalance
    rw [if_neg unknown, dropHeldRead_eq, State.change_slot, State.change_setSlot]
    have learned := State.change_setKnown (s := s) (p := p) (x := { x with slot := x.slot.withoutRead 4 }) hn hfits
    rw [Intercept.afterBalance_withoutRead] at learned
    exact learned

theorem takeReply_written (hshown : (s.booth p).shown) (hfault : (s.booth p).state ≠ .fault)
    (hidle : (s.slot p).inFlight = none) (sent : Option SlotRecord) (v : Word) :
    s.takeReply p sent (.written 4 v) = s.learnBalance p v.toNat (ownSlot sent) := by
  rw [takeReply_of_idle hshown (by nofun) hidle (idle_opens_nothing (by nofun)), heldStep_of_spared rfl]
  exact if_neg hfault

theorem Intercept.afterBalance_afterData (c : Intercept) (own : Bool) :
    (c.afterBalance own).afterData own 4 = { c with
      held := if c.held.any Held.isWrite ∨ c.held.map Held.request = some (.read 4) then none else c.held } := by
  unfold Intercept.afterBalance Intercept.afterData
  by_cases hw : c.held.any Held.isWrite <;> by_cases hr : c.held.map Held.request = some (.read 4) <;>
    cases own <;> simp [hw, hr]

/-- The reply that brings a balance: DATA, or a WRITTEN that finds no record. -/
def balanceReply (data : Bool) (p : Position) (v : Word) (last : Byte) : Instr :=
  if data then .data p 4 v last else .written p 4 v last

/-- The interception context after a balance learned has been dealt with (R53). -/
def Intercept.afterBalanceReply (c : Intercept) (data own : Bool) : Intercept := if data then c.afterData own 4 else c

theorem exec_balance (h : s.cardHere p) (hidle : (s.slot p).inFlight = none) (data : Bool) (v : Word) (last : Byte)
    (hx : (s.reach (replyIn p)).learnBalance p v.toNat (ownSlot (s.slot p).record) = (s.reach (replyIn p)).change p x) :
    ∃ u, exec (balanceReply data p v last) s = .next (s.repliedWith p { x with
      slot := x.slot.afterBalanceReply data (ownSlot (s.slot p).record) } u) := by
  have h' := h
  obtain ⟨htaking, hfault, hpresent⟩ := h'
  have hshown : (s.booth p).shown := .inr hpresent
  cases data with
  | true => exact ⟨_, exec_data h hidle last (Eq.trans (if_neg hfault) hx)⟩
  | false =>
    have steps := takeReply_written (s := s.reach (replyIn p)) hshown hfault hidle (s.slot p).record v
    exact ⟨_, exec_reply_of_change (c := .written p 4 v last) htaking hshown (by nofun) rfl rfl (steps.trans hx)⟩

theorem repliedWith_ledger (s : State) (p : Position) (x : Change) (u : UpReply) :
    (s.repliedWith p x u).ledger = { accrued := s.ledger.accrued + x.accrued, debited := s.ledger.debited + x.debited,
                                     dropped := s.ledger.dropped + x.dropped } := rfl

/-- Units debited by a change that debited none before. -/
theorem Ledger.debited_of_zero (l : Ledger) (n : Nat) :
    ({ accrued := l.accrued + 0, debited := l.debited + (0 + n), dropped := l.dropped + 0 } : Ledger) =
      { l with debited := l.debited + n } := by
  rw [Nat.zero_add]
  rfl

/-- Settles O19. -/
theorem balanceLearnedSettlesThePendingResolution : Obligations.BalanceLearnedSettlesThePendingResolution := by
  intro s p v last data hhere hidle cmd b c own read4
  have self := State.change_self (s.reach (replyIn p)) p
  have hown : ownSlot (s.slot p).record = own := ownSlot_eq _
  constructor
  · intro hsame
    obtain ⟨u, done⟩ := exec_balance hhere hidle data v last
      ((learnBalance_of_same (s := s.reach (replyIn p)) hsame _).trans self)
    refine ⟨u, done.trans ?_⟩
    have context : c.afterBalanceReply data own = { c with held := if own ∧ data ∧ read4 then none else c.held } := by
      cases data with
      | true => simp [Intercept.afterBalanceReply, Intercept.afterData, read4]
      | false => simp [Intercept.afterBalanceReply]
    rw [← context, hown]
    rfl
  · intro hnew k extra c' hfits
    obtain ⟨u, done⟩ := exec_balance hhere hidle data v last
      ((congrArg (fun t : State => t.learnBalance p v.toNat (ownSlot (s.slot p).record)) self).trans
        (State.change_learnBalance _ hnew hfits))
    have context : { (c.afterBalance own).afterBalanceReply data own with record := none } = c' := by
      cases data with
      | true =>
        simp only [Intercept.afterBalanceReply, if_true, Intercept.afterBalance_afterData, c', read4, decide_eq_true_eq,
          implies_true, and_true]
      | false =>
        simp only [Intercept.afterBalanceReply, Bool.false_eq_true, if_false, Intercept.afterBalance, c', read4,
          decide_eq_true_eq, imp_false, Bool.not_eq_true]
    rw [hown] at done
    refine ⟨_, u, done, repliedAt_repliedWith .., ?_, ?_, ⟨rfl, rfl⟩, rfl, ?_⟩
    · exact (repliedWith_slot ..).trans context
    · exact (repliedWith_booth ..).trans rfl
    · exact (repliedWith_ledger ..).trans (Ledger.debited_of_zero _ _)

end Sys2Proof.Machine

/-! ## Records settled, and replies that find one held (R60, R95, R118, R126, R127) -/

namespace Sys2Proof.Machine

variable {s t : State} {p q : Position} {c : Instr} {r : Reply} {bytes : SlotBytes} {x : Change} {y : InFlight}

/-- The extra units of a record at the balance `n` (R60). -/
def InFlight.extraUnits (y : InFlight) (n : Nat) : Nat := min y.k (n - y.value)

/-- The interception context without its record. -/
def Intercept.cleared (c : Intercept) : Intercept := { c with inFlight := none }

theorem clearRecord_eq (s : State) (p : Position) : s.clearRecord p = s.setSlot p (s.slot p).cleared := rfl

/-- A record settled before the balance is learned: its extra units are back in W (R60). -/
def Change.settled (x : Change) (y : InFlight) (n : Nat) : Change :=
  { x with booth := { x.booth with owed := x.booth.owed + y.extraUnits n }, slot := x.slot.cleared,
           debited := x.debited + (y.k - y.extraUnits n) }

theorem State.change_settleRecord {n : Nat} (hfits : x.booth.owed + y.extraUnits n ≤ 65535) (own : Bool) :
    (s.change p x).settleRecord p y n own = ((s.change p (x.settled y n)).learnBalance p n own).evaluate p := by
  unfold State.settleRecord
  rw [State.onSlot_eq, State.change_slot, State.change_setSlot]
  dsimp only
  rw [State.change_addDebited, State.change_charge, Change.charge_of_fits _ _ _ (by exact hfits)]
  rfl

/-- A record settled at the balance that is known already (R60, R95). -/
theorem State.change_settleRecord_same {n : Nat} (hfits : x.booth.owed + y.extraUnits n ≤ 65535)
    (hn : x.booth.known = some n) (own : Bool) :
    (s.change p x).settleRecord p y n own = s.change p { x.settled y n with
      booth := ({ x.booth with owed := x.booth.owed + y.extraUnits n } : Booth).evaluated x.slot.cleared
        s.settings.graceTime } := by
  rw [State.change_settleRecord hfits, learnBalance_of_same (by rw [State.change_booth]; exact hn), State.change_evaluate]
  rfl

/-- A balance learned with no pending resolution to settle (R2). -/
theorem State.change_learnBalance_free {n : Nat} (own : Bool) (hn : x.booth.known ≠ some n)
    (howed : x.booth.owed ≤ 65535) (hres : x.booth.pendingRes = none) :
    (s.change p x).learnBalance p n own = s.change p { x with
      booth := ({ x.booth with known := some n } : Booth).evaluated (x.slot.afterBalance own) s.settings.graceTime,
      slot := x.slot.afterBalance own } := by
  have units : x.booth.extraUnits n = 0 := by
    unfold Booth.extraUnits
    rw [hres]
  have debt : pairK x.booth.pendingRes - 0 = 0 := by
    rw [hres]
    rfl
  rw [State.change_learnBalance own hn (by rw [units]; exact howed), units, debt, ← hres]
  rfl

/-- A record settled at another balance than the known one (R60). -/
theorem State.change_settleRecord_changed {n : Nat} (hfits : x.booth.owed + y.extraUnits n ≤ 65535)
    (hn : x.booth.known ≠ some n) (hres : x.booth.pendingRes = none) (own : Bool) :
    (s.change p x).settleRecord p y n own = s.change p { x.settled y n with
      booth := ({ x.booth with owed := x.booth.owed + y.extraUnits n, known := some n } : Booth).evaluated
        (x.slot.cleared.afterBalance own) s.settings.graceTime,
      slot := x.slot.cleared.afterBalance own } := by
  rw [State.change_settleRecord hfits, State.change_learnBalance_free (x := x.settled y n) own hn hfits hres,
    State.change_evaluate]
  dsimp only
  rw [Booth.evaluated_evaluated]
  rfl

/-- An evaluation looks at no more of the interception context than its covered units (R3). -/
theorem Booth.evaluated_of_k {c d : Intercept} (h : c.k = d.k) (b : Booth) (graceTime : Nat) :
    b.evaluated c graceTime = b.evaluated d graceTime := by
  unfold Booth.evaluated
  rw [h]

/-- The interception context once a record is settled: only a balance that changes touches the held request (R53, R55). -/
def Intercept.afterSettled (c : Intercept) (same own : Bool) : Intercept := if same then c else c.afterBalance own

theorem Intercept.k_afterSettled (c : Intercept) (same own : Bool) : (c.afterSettled same own).k = c.k := by
  cases same <;> rfl

/-- A record settled where no resolution is pending (R60). -/
theorem State.change_settleRecord_free {n : Nat} (hfits : x.booth.owed + y.extraUnits n ≤ 65535)
    (hres : x.booth.pendingRes = none) (own : Bool) :
    (s.change p x).settleRecord p y n own = s.change p { x.settled y n with
      booth := ({ x.booth with owed := x.booth.owed + y.extraUnits n, known := some n } : Booth).evaluated
        (x.slot.cleared.afterSettled (x.booth.known = some n) own) s.settings.graceTime,
      slot := x.slot.cleared.afterSettled (x.booth.known = some n) own } := by
  unfold Intercept.afterSettled
  by_cases hn : x.booth.known = some n
  · rw [State.change_settleRecord_same hfits hn, if_pos (decide_eq_true hn), ← hn]
    rfl
  · rw [State.change_settleRecord_changed hfits hn hres, if_neg (mt of_decide_eq_true hn)]

/-- The WRITTEN that ends a record closes the lock of one that the row controller's write opened (R118). -/
theorem lockStep_settled (s : State) (p : Position) (y : InFlight) (v : Word) :
    s.lockStep p (some y) (.written y.word v) =
      s.setSlot p { s.slot p with lock := if y.origin = .row then 0 else (s.slot p).lock } := by
  have ended : settles (some y) (.written y.word v) = true := decide_eq_true rfl
  unfold State.lockStep
  by_cases h : y.origin = .row
  · rw [if_pos ⟨ended, congrArg some h⟩, if_pos h]
    rfl
  · rw [if_neg (fun hx => h (Option.some.inj hx.2)), if_neg h]
    exact (State.setSlot_slot s p).symm

/-- The WRITTEN for the word of the record that is held (R60, R126). -/
theorem takeReply_settled (hshown : (s.booth p).shown) (hrecord : (s.slot p).inFlight = some y) (sent : Option SlotRecord)
    (v : Word) :
    s.takeReply p sent (.written y.word v) =
      (if y.word = 4 then s.settleRecord p y v.toNat (ownSlot sent) else s.clearRecord p).lockStep p (some y)
        (.written y.word v) := by
  have ended : settles (some y) (.written y.word v) = true := decide_eq_true rfl
  rw [takeReply_of_shown hshown (by nofun), hrecord, if_pos ended, heldStep_of_spared rfl]
  unfold State.recordStep
  rw [hrecord]
  dsimp only
  rw [if_pos rfl]

/-- Settles O18. -/
theorem writtenSettlesTheRecord : Obligations.WrittenSettlesTheRecord := by
  intro s p y v last ⟨htaking, hfault, hpresent⟩ hrecord b c own lock
  have hshown : (s.booth p).shown := .inr hpresent
  have self := State.change_self (s.reach (replyIn p)) p
  have hown : ownSlot (s.slot p).record = own := ownSlot_eq _
  have steps := takeReply_settled (s := s.reach (replyIn p)) hshown hrecord (s.slot p).record v
  have replied := fun {x} => exec_reply_of_change (c := .written p y.word v last) (x := x) htaking hshown (by nofun) rfl rfl
  constructor
  · intro hword hres extra hfits c'
    rw [if_pos hword, hown] at steps
    have settled := (congrArg (fun t : State => t.settleRecord p y v.toNat own) self).trans
      (State.change_settleRecord_free (y := y) hfits hres own)
    rw [settled, lockStep_settled, State.change_slot, State.change_setSlot] at steps
    have answered := replied steps
    rw [hword] at answered
    have context : { c.cleared.afterSettled (b.known = some v.toNat) own with
        lock := if y.origin = .row then 0 else (c.cleared.afterSettled (b.known = some v.toNat) own).lock,
        record := none } = c' := by
      unfold Intercept.afterSettled
      by_cases hsame : b.known = some v.toNat
      · simp only [hsame, decide_true, if_true, c']
        rfl
      · simp only [hsame, decide_false, Bool.false_eq_true, if_false, c', Bool.not_eq_true]
        rfl
    refine ⟨_, _, answered, repliedAt_repliedWith .., ?_, ?_, ⟨rfl, rfl⟩, rfl, ?_⟩
    · exact (repliedWith_slot ..).trans context
    · have same : ∀ x : Booth, x.evaluated (c.cleared.afterSettled (b.known = some v.toNat) own) s.settings.graceTime =
          x.evaluated c' s.settings.graceTime := fun x =>
        Booth.evaluated_of_k (c.cleared.k_afterSettled (b.known = some v.toNat) own) x s.settings.graceTime
      exact (repliedWith_booth ..).trans (same { b with owed := b.owed + extra, known := some v.toNat })
    · exact (repliedWith_ledger ..).trans (Ledger.debited_of_zero _ _)
  · rintro a rfl hword
    rw [if_neg hword, lockStep_settled, clearRecord_eq, State.slot_setSlot_self, State.setSlot_setSlot,
      State.setSlot_eq_change] at steps
    have answered := replied steps
    rw [replyBytes_words_append] at answered
    exact answered

end Sys2Proof.Machine

/-! ## Replies that find a write not performed (R95, R126, R127) -/

namespace Sys2Proof.Machine

variable {s t : State} {p q : Position} {c : Instr} {r : Reply} {bytes : SlotBytes} {x : Change} {y : InFlight}

/-- The reply is one of a reader that has not performed the write in flight (R95, R126). -/
def InFlight.undoneBy (y : InFlight) : Reply → Bool
  | .ready | .data _ _ | .error | .unknown => true
  | .written a _ => a ≠ y.word
  | .absent | .busy | .accepted _ => false

/-- What a reply that undoes a write is and is not. -/
structure Undoes (y : InFlight) (r : Reply) : Prop where
  notAbsent : r ≠ .absent
  notAccepted : ∀ w, r ≠ .accepted w
  unsettled : settles (some y) r = false
  notDebited : debitedValue (some y) r = none
  record : ∀ (s : State) (p : Position) (sent : Option SlotRecord), (s.slot p).inFlight = some y →
    s.recordStep p sent r = s.notPerformed p y

theorem undoes_of_undoneBy (h : y.undoneBy r = true) : Undoes y r where
  notAbsent := by rintro rfl; exact nomatch h
  notAccepted := by rintro w rfl; exact nomatch h
  unsettled := by
    cases r with
    | written a v =>
      have hne : y.word ≠ a := (of_decide_eq_true h).symm
      exact decide_eq_false hne
    | _ => rfl
  notDebited := by
    cases r with
    | written a v =>
      have hne : y.word ≠ a := (of_decide_eq_true h).symm
      exact if_neg fun hx => hne hx.1
    | _ => rfl
  record := by
    intro s p sent hrecord
    unfold State.recordStep
    rw [hrecord]
    cases r with
    | written a v =>
      have hne : y.word ≠ a := (of_decide_eq_true h).symm
      exact if_neg hne
    | absent | busy | accepted w => exact nomatch h
    | _ => rfl

theorem takeReply_undone (hshown : (s.booth p).shown) (hrecord : (s.slot p).inFlight = some y) (h : Undoes y r)
    (sent : Option SlotRecord) :
    s.takeReply p sent r = ((s.notPerformed p y).wordStep p (ownSlot sent) r).heldStep p (ownSlot sent) r := by
  rw [takeReply_of_shown hshown h.notAbsent, hrecord, h.unsettled, lockStep_of_not_settled h.unsettled,
    if_neg Bool.false_ne_true, h.record s p sent hrecord]

theorem upstream_undone (h : Undoes y r) (sent : Option SlotRecord) (bytes : SlotBytes) :
    upstream sent (some y) r bytes = upstream sent none r bytes := by
  have same : shown (some y) r bytes = shown none r bytes := by
    unfold shown
    rw [h.notDebited]
    rfl
  unfold upstream
  rw [same]

@[simp] theorem State.withContexts_booth (s : State) (p : Position) (b : Booth) (c : Intercept) :
    (s.withContexts p b c).booth p = b := s.booth_setBooth_self p b

@[simp] theorem State.withContexts_slot (s : State) (p : Position) (b : Booth) (c : Intercept) :
    (s.withContexts p b c).slot p = c := (s.setBooth p b).slot_setSlot_self p c

/-- A reply that undoes a write acts on what the write undone leaves, as at a position with no record (R95). -/
theorem exec_undone (htaking : s.taking) (hshown : (s.booth p).shown) (hrecord : (s.slot p).inFlight = some y)
    (hc : replyOf c = some (p, r)) (h : Undoes y r) {b : Booth}
    (hundone : (s.reach (replyIn p)).notPerformed p y =
      (s.withContexts p b (s.slot p).cleared).reach (replyIn p)) (hb : b.shown) :
    exec c s = exec c (s.withContexts p b (s.slot p).cleared) := by
  obtain ⟨bytes, hbytes⟩ := encodeReply_of_replyOf hc
  have slot := s.withContexts_slot p b (s.slot p).cleared
  have booth := s.withContexts_booth p b (s.slot p).cleared
  have after : (((s.withContexts p b (s.slot p).cleared).reach (replyIn p)).booth p).shown := by
    rw [State.reach_booth, booth]
    exact hb
  have idle : (((s.withContexts p b (s.slot p).cleared).reach (replyIn p)).slot p).inFlight = none := by
    rw [State.reach_slot, slot]
    rfl
  rw [exec_reply htaking hc hbytes, exec_reply (s := s.withContexts p b (s.slot p).cleared) htaking hc hbytes,
    takeReply_undone (s := s.reach (replyIn p)) hshown hrecord h, hundone,
    takeReply_of_idle after h.notAbsent idle (idle_opens_nothing h.notAccepted),
    presenceStep_of_shown (s := s.reach (replyIn p)) hshown h.notAbsent, presenceStep_of_shown after h.notAbsent, idle,
    State.reach_slot, hrecord, upstream_undone h, slot]
  rfl

/-- A reply that changes nothing but what the row controller is shown. -/
theorem exec_still (htaking : s.taking) (hshown : (s.booth p).shown) (hc : replyOf c = some (p, r)) (hr : r ≠ .absent)
    (h : (s.reach (replyIn p)).takeReply p (s.slot p).record r = s.reach (replyIn p)) :
    ∃ u, exec c s = .next (s.replied p (s.booth p) (s.slot p) u) := by
  obtain ⟨bytes, hbytes⟩ := encodeReply_of_replyOf hc
  exact ⟨_, exec_reply_of_change htaking hshown hr hc hbytes (h.trans (State.change_self _ p))⟩

/-- A reply with no word to learn, in a slot that the part did not use, does nothing at an idle reader (R120). -/
theorem exec_bare (htaking : s.taking) (hshown : (s.booth p).shown) (hidle : (s.slot p).inFlight = none)
    (hrow : s.rowSlot p) (hc : replyOf c = some (p, r)) (hr : r ≠ .absent) (hopen : ∀ w, r ≠ .accepted w)
    (hword : r.wordless = true) : ∃ u, exec c s = .next (s.replied p (s.booth p) (s.slot p) u) := by
  refine exec_still htaking hshown hc hr ?_
  rw [takeReply_of_idle (s := s.reach (replyIn p)) hshown hr hidle (idle_opens_nothing hopen), wordStep_of_wordless hword,
    ownSlot_of_row hrow, heldStep_of_row]

@[simp] theorem State.withContexts_withContexts (s : State) (p : Position) (b b' : Booth) (c c' : Intercept) :
    (s.withContexts p b c).withContexts p b' c' = s.withContexts p b' c' := by
  simp [State.withContexts, State.setBooth, State.setSlot]

theorem replied_withContexts (s : State) (p : Position) (b b' : Booth) (c c' : Intercept) (u : UpReply) :
    (s.withContexts p b c).replied p b' c' u = s.replied p b' c' u := by
  unfold State.replied
  rw [State.withContexts_withContexts]
  rfl

/-- Evaluating leaves the card shown (R3). -/
theorem Booth.shown_evaluated {b : Booth} (h : b.shown) (c : Intercept) (graceTime : Nat) :
    (b.evaluated c graceTime).shown := by
  rcases h with hfault | hpresent
  · refine .inl ?_
    cases hk : b.known with
    | none => rw [Booth.evaluated_of_unknown hk, hfault]
    | some n =>
      rw [Booth.evaluated_of_known hk, hfault, if_neg (fun h => nomatch h.1), if_neg (fun h => nomatch h.1), hfault]
  · obtain ⟨_, _, moved⟩ := b.evaluated_frame c graceTime
    rw [moved]
    exact .inr hpresent

/-- A write of word 4 not performed gives all its units back (R95). -/
theorem notPerformed_balance (hword : y.word = 4) {n : Nat} (hprior : y.prior = some n) (hk : (s.booth p).known = some n)
    (hle : y.k ≤ n - y.value) (hfits : (s.booth p).owed + y.k ≤ 65535) :
    s.notPerformed p y = s.withContexts p (({ s.booth p with owed := (s.booth p).owed + y.k } : Booth).evaluated
      (s.slot p).cleared s.settings.graceTime) (s.slot p).cleared := by
  have all : y.extraUnits n = y.k := Nat.min_eq_left hle
  unfold State.notPerformed
  rw [if_pos hword, hprior]
  refine (congrArg (fun t : State => t.settleRecord p y n true) (s.change_self p)).trans ?_
  refine (State.change_settleRecord_same (x := s.rewrite (s.booth p) (s.slot p)) (by rw [all]; exact hfits) hk true).trans ?_
  rw [← State.change_rewrite, Change.settled, all, Nat.sub_self]
  rfl

/-- A write of another word than 4 not performed leaves no trace (R95). -/
theorem notPerformed_other (hword : y.word ≠ 4) (s : State) (p : Position) :
    s.notPerformed p y = s.withContexts p (s.booth p) (s.slot p).cleared := by
  unfold State.notPerformed
  rw [if_neg hword, clearRecord_eq, State.setSlot_eq_change, State.change_rewrite]

/-- The reply says that the write in flight goes on: BUSY and ACCEPTED (R126, R127). -/
def Reply.keepsRecord : Reply → Bool
  | .busy | .accepted _ => true
  | _ => false

/-- BUSY and ACCEPTED leave a record and all else as it is (R126, R127). -/
theorem takeReply_kept (hkeeps : r.keepsRecord = true) (hshown : (s.booth p).shown) (hrecord : (s.slot p).inFlight = some y)
    (sent : Option SlotRecord) : r ≠ .absent ∧ s.takeReply p sent r = s := by
  have kept : r ≠ .absent ∧ r.wordless = true ∧ r.sparesHeld = true ∧ settles (some y) r = false ∧
      s.recordStep p sent r = s := by
    unfold State.recordStep
    rw [hrecord]
    cases r with
    | busy => exact ⟨nofun, rfl, rfl, rfl, rfl⟩
    | accepted w => exact ⟨nofun, rfl, rfl, rfl, rfl⟩
    | _ => exact nomatch hkeeps
  obtain ⟨habsent, hword, hspared, hsettles, hstill⟩ := kept
  refine ⟨habsent, ?_⟩
  rw [takeReply_of_shown hshown habsent, hrecord, hsettles, lockStep_of_not_settled hsettles, if_neg Bool.false_ne_true,
    hstill, wordStep_of_wordless hword, heldStep_of_spared hspared]

/-- In FAULT a reply that undoes a write of another word than 4 clears its record (R95, R126). -/
theorem takeReply_undone_fault (hfault : (s.booth p).state = .fault) (hrecord : (s.slot p).inFlight = some y)
    (h : Undoes y r) (hword : y.word ≠ 4) (sent : Option SlotRecord)
    (hfree : ownSlot sent = false ∨ (s.slot p).held = none) :
    s.takeReply p sent r = s.setSlot p (s.slot p).cleared := by
  have quiet : (s.setSlot p (s.slot p).cleared).heldStep p (ownSlot sent) r = s.setSlot p (s.slot p).cleared := by
    rcases hfree with hrow | hnone
    · rw [hrow, heldStep_of_row]
    · refine heldStep_of_none ?_ _ _
      rw [State.slot_setSlot_self]
      exact hnone
  have undone : s.notPerformed p y = s.setSlot p (s.slot p).cleared := if_neg hword
  rw [takeReply_undone (.inl hfault) hrecord h, undone, wordStep_of_fault (s := s.setSlot p _) hfault, quiet]

/-- In FAULT the WRITTEN of the record's word ends it, with no accounting for another word than 4 (R118, R126). -/
theorem takeReply_ended_other (hshown : (s.booth p).shown) (hrecord : (s.slot p).inFlight = some y) (hword : y.word ≠ 4)
    (sent : Option SlotRecord) (v : Word) :
    s.takeReply p sent (.written y.word v) =
      s.setSlot p { (s.slot p).cleared with lock := if y.origin = .row then 0 else (s.slot p).lock } := by
  rw [takeReply_settled hshown hrecord, if_neg hword, lockStep_settled, clearRecord_eq, State.slot_setSlot_self,
    State.setSlot_setSlot]
  rfl

/-- Settles O16. -/
theorem replyOfAnIdleReaderUndoesTheWrite : Obligations.ReplyOfAnIdleReaderUndoesTheWrite := by
  intro s p y c r htaking hrecord hshown hc b cleared undoes bare ends keeps
  have isUndoes : undoes = y.undoneBy r := by cases r <;> rfl
  have other : undoes = true → y.word ≠ 4 → exec c s = exec c (s.withContexts p b cleared) := fun hundoes hword =>
    exec_undone htaking hshown hrecord hc (undoes_of_undoneBy (isUndoes ▸ hundoes))
      (notPerformed_other hword (s.reach (replyIn p)) p) hshown
  have balance : undoes = true → y.word = 4 → ∀ n, y.prior = some n → b.known = some n → y.k ≤ n - y.value →
      b.owed + y.k ≤ 65535 →
      exec c s = exec c (s.withContexts p
        (({ b with owed := b.owed + y.k } : Booth).evaluated cleared s.settings.graceTime) cleared) :=
    fun hundoes hword n hprior hk hle hfits =>
      exec_undone htaking hshown hrecord hc (undoes_of_undoneBy (isUndoes ▸ hundoes))
        (notPerformed_balance (s := s.reach (replyIn p)) hword hprior hk hle hfits)
        (Booth.shown_evaluated (b := { b with owed := b.owed + y.k }) hshown _ _)
  have isEnds : ends = settles (some y) r := by
    cases r with
    | written a v => exact decide_eq_decide.mpr eq_comm
    | _ => rfl
  have isUndoes' : bare = true → undoes = true := by
    cases r <;> simp [bare, undoes]
  have afterwards : s.cardHere p → s.rowSlot p → bare = true → ∀ b' : Booth, b'.shown →
      ∃ u, exec c (s.withContexts p b' cleared) = .next (s.replied p b' cleared u) := by
    intro hhere hrow hbare b' hb'
    have row : (s.withContexts p b' cleared).rowSlot p := by
      unfold State.rowSlot
      rw [State.withContexts_slot]
      exact hrow
    have shown' : ((s.withContexts p b' cleared).booth p).shown := by rwa [State.withContexts_booth]
    have idle : ((s.withContexts p b' cleared).slot p).inFlight = none := by
      rw [State.withContexts_slot]
    have undo := undoes_of_undoneBy (isUndoes ▸ isUndoes' hbare)
    have wordless : r.wordless = true := by cases r <;> simp_all [bare, Reply.wordless]
    obtain ⟨u, done⟩ := exec_bare (s := s.withContexts p b' cleared) htaking shown' idle row hc undo.notAbsent
      undo.notAccepted wordless
    rw [State.withContexts_booth, State.withContexts_slot, replied_withContexts] at done
    exact ⟨u, done⟩
  refine ⟨other, balance, fun hhere hrow hbare => ⟨?_, ?_⟩, fun hkeeps => ?_, fun hfault hword hfree hended => ?_⟩
  · intro hword n hprior hk hle hfits c'
    obtain ⟨u, done⟩ := afterwards hhere hrow hbare
      (({ b with owed := b.owed + y.k } : Booth).evaluated cleared s.settings.graceTime)
      (Booth.shown_evaluated (b := { b with owed := b.owed + y.k }) hshown _ _)
    rw [← balance (isUndoes' hbare) hword n hprior hk hle hfits] at done
    refine ⟨_, u, done, repliedAt_repliedWith s p (s.rewrite _ cleared) u, ?_, ?_, ⟨rfl, rfl⟩, rfl, rfl⟩
    · exact repliedWith_slot s p (s.rewrite _ cleared) u
    · exact repliedWith_booth s p (s.rewrite _ cleared) u
  · intro hword
    obtain ⟨u, done⟩ := afterwards hhere hrow hbare b hshown
    exact ⟨u, (other (isUndoes' hbare) hword).trans done⟩
  · have kept : r.keepsRecord = true := hkeeps ▸ (by cases r <;> rfl)
    obtain ⟨habsent, still⟩ := takeReply_kept (s := s.reach (replyIn p)) kept hshown hrecord (s.slot p).record
    exact exec_still htaking hshown hc habsent still
  · obtain ⟨bytes, hbytes⟩ := encodeReply_of_replyOf hc
    rcases hended with hundoes | hends
    · have undo := undoes_of_undoneBy (isUndoes ▸ hundoes)
      have free : ownSlot (s.slot p).record = false ∨ (s.slot p).held = none := hfree.imp_left ownSlot_of_row
      have steps := takeReply_undone_fault (s := s.reach (replyIn p)) hfault hrecord undo hword _ free
      rw [State.setSlot_eq_change] at steps
      have done := exec_reply_of_change htaking hshown undo.notAbsent hc hbytes steps
      have lasts : ends = false := isEnds.trans undo.unsettled
      rw [lasts]
      exact ⟨_, done⟩
    · obtain ⟨v, rfl⟩ : ∃ v, r = .written y.word v := by
        cases r with
        | written a v =>
          obtain rfl : a = y.word := of_decide_eq_true hends
          exact ⟨v, rfl⟩
        | _ => exact nomatch hends
      have steps := takeReply_ended_other (s := s.reach (replyIn p)) hshown hrecord hword (s.slot p).record v
      rw [State.setSlot_eq_change] at steps
      have done := exec_reply_of_change htaking hshown (by nofun) hc hbytes steps
      simp only [hends, true_and]
      exact ⟨_, done⟩

end Sys2Proof.Machine

/-! ## Card presence: insertions, and ABSENT with no card (R2, R6, R20, R21) -/

namespace Sys2Proof.Machine

variable {s t : State} {p q : Position} {c : Instr} {r : Reply} {bytes : SlotBytes} {x : Change}

/-! ### The resumed call (R21) -/

/-- The booth of a resumed call at the band `band` (R21). -/
def Booth.resumedCall (b : Booth) (band : Band) (rate : Nat) : Booth :=
  { b with state := .call, callUp := true, resumed := .no, bandAtAnswer := band, rate := some rate, fraction := 0,
           callUnits := 0, lastSerial := (match b.serial with | some n => some n | none => b.lastSerial) }

theorem Booth.serial_of_noHigh {b : Booth} (h : b.serialHigh = none) : b.serial = none := by
  unfold Booth.serial
  rw [h]

/-- A card with no serial leaves the last serial as it was (R21). -/
theorem Booth.resumedCall_of_noSerial {b : Booth} (h : b.serial = none) (band : Band) (rate : Nat) :
    b.resumedCall band rate =
      { b with state := .call, callUp := true, resumed := .no, bandAtAnswer := band, rate := some rate, fraction := 0,
               callUnits := 0 } := by
  unfold Booth.resumedCall
  rw [h]

/-- The booth of a resumed call that finds no tariff (R15, R21). -/
def Booth.resumedUnset (b : Booth) (band : Band) (hold : Nat) : Booth :=
  { b with callUp := true, resumed := .no, bandAtAnswer := band, rate := none, state := .clearing, grace := 0,
           timer := some (.assert hold) }

theorem State.change_startResumed_present {e : TariffEntry} (he : s.lookup s.settings.unknownBand = some e)
    (hp : x.booth.present = .yes) : (s.change p x).startResumed p = s.change p { x with
      booth := (x.booth.resumedCall s.settings.unknownBand e.rate).evaluated x.slot s.settings.graceTime } := by
  unfold State.startResumed
  dsimp only
  rw [State.change_settings, State.change_lookup, he]
  dsimp only
  rw [State.onBooth_eq, State.change_booth, State.change_setBooth, State.change_booth, if_pos hp, State.change_evaluate]
  rfl

theorem State.change_startResumed_absent {e : TariffEntry} (he : s.lookup s.settings.unknownBand = some e)
    (hp : x.booth.present ≠ .yes) : (s.change p x).startResumed p = s.change p { x with
      booth := { x.booth.resumedCall s.settings.unknownBand e.rate with
                 state := .grace, grace := s.settings.graceTime * 10 } } := by
  unfold State.startResumed
  dsimp only
  rw [State.change_settings, State.change_lookup, he]
  dsimp only
  rw [State.onBooth_eq, State.change_booth, State.change_setBooth, State.change_booth, if_neg hp]
  unfold State.enterGrace
  rw [State.onBooth_eq, State.change_booth, State.change_setBooth, State.change_graceTicks]
  rfl

theorem State.change_startResumed_unset (he : s.lookup s.settings.unknownBand = none) :
    (s.change p x).startResumed p = s.change p { x with
      booth := x.booth.resumedUnset s.settings.unknownBand s.settings.clearDownHold,
      records := x.records ++ [.clearDown p .tariffUnset] } := by
  unfold State.startResumed
  dsimp only
  rw [State.change_settings, State.change_lookup, he]
  dsimp only
  rw [State.onBooth_eq, State.change_booth, State.change_setBooth, State.change_enterClearing]
  rfl

/-! ### ABSENT (R2, R126) -/

/-- After step 1 an ABSENT does no more where no record is held any longer (R126). -/
theorem takeReply_absent (h : ((s.presenceStep p .absent).slot p).inFlight = none) (sent : Option SlotRecord) :
    s.takeReply p sent .absent = s.presenceStep p .absent := by
  unfold State.takeReply
  dsimp only
  rw [h, recordStep_of_idle h (idle_opens_nothing (by nofun)), settles_none, wordStep_of_wordless rfl,
    heldStep_of_spared rfl, lockStep_of_not_settled rfl]
  rfl

/-- An ABSENT whose first step makes the change `x` and leaves no record. -/
theorem exec_absent (htaking : s.taking) (rest : BitVec 28)
    (hx : (s.reach (replyIn p)).presenceStep p .absent = (s.reach (replyIn p)).change p x) (hidle : x.slot.inFlight = none) :
    exec (.absent p rest) s = .next (s.repliedWith p x
      (upstream (s.slot p).record none .absent ((0x100 : BitVec 12) ++ rest))) := by
  have idle : (((s.reach (replyIn p)).presenceStep p .absent).slot p).inFlight = none := by
    rw [hx, State.change_slot, hidle]
  have replied := exec_reply_change (c := .absent p rest) htaking rfl rfl ((takeReply_absent idle _).trans hx)
  rw [idle] at replied
  exact replied

theorem presenceStep_absent_no (hfault : (s.booth p).state ≠ .fault) (hp : (s.booth p).present = .no) :
    s.presenceStep p .absent = s.change p (s.rewrite (s.booth p) (s.slot p).cleared) := by
  unfold State.presenceStep
  dsimp only
  rw [if_neg hfault, if_pos rfl, hp]
  exact State.setSlot_eq_change ..

/-- An ABSENT where the presence was not known yet (R2). -/
theorem presenceStep_absent_unknown (hfault : (s.booth p).state ≠ .fault) (hp : (s.booth p).present = .unknown) :
    s.presenceStep p .absent =
      if (s.booth p).foundUp then
        (s.change p (s.rewrite { s.booth p with present := .no } (s.slot p).cleared)).startResumed p
      else s.change p (s.rewrite { s.booth p with present := .no } (s.slot p).cleared) := by
  have written : (s.clearRecord p).onBooth p (fun b => { b with present := .no }) =
      s.change p (s.rewrite { s.booth p with present := .no } (s.slot p).cleared) := by
    rw [clearRecord_eq, State.setSlot_eq_change, State.onBooth_eq, State.change_booth, State.change_setBooth]
    rfl
  unfold State.presenceStep
  dsimp only
  rw [if_neg hfault, if_pos rfl, hp]
  dsimp only
  rw [written]

/-- Settles O31. -/
theorem absentWithoutCard : Obligations.AbsentWithoutCard := by
  intro s p rest htaking hfault b c u
  have absent := fun {x} => exec_absent (s := s) (p := p) (x := x) htaking rest
  have first := presenceStep_absent_unknown (s := s.reach (replyIn p)) (p := p) hfault
  refine ⟨fun hp => ?_, fun hp hnot => ?_, fun hp hfound hhigh => ?_⟩
  · exact absent (presenceStep_absent_no (s := s.reach (replyIn p)) hfault hp) rfl
  · exact absent ((first hp).trans (if_neg (Bool.eq_false_iff.mp hnot))) rfl
  · have noSerial : ({ b with present := .no } : Booth).serial = none := Booth.serial_of_noHigh hhigh
    refine ⟨fun e he => ?_, fun he => ?_⟩
    · have resumed := ((first hp).trans (if_pos hfound)).trans (State.change_startResumed_absent he (by nofun))
      exact (absent resumed rfl).trans (congrArg (fun x : Booth => Host.Outcome.next
        (s.replied p { x with state := .grace, grace := s.settings.graceTime * 10 } c u))
        (Booth.resumedCall_of_noSerial noSerial s.settings.unknownBand e.rate))
    · have resumed := ((first hp).trans (if_pos hfound)).trans (State.change_startResumed_unset he)
      exact (absent resumed rfl).trans (congrArg Host.Outcome.next (repliedWith_records ..))

/-! ### Insertion (R6, R20, R21) -/

/-- The booth that a card just inserted leaves, where no call is resumed (R6). -/
theorem insertCard_still (s : State) (p : Position) (h : ¬ ((s.booth p).state = .vacant ∧ (s.booth p).foundUp)) :
    s.insertCard p = s.withContexts p (s.booth p).inserted (s.slot p) := by
  have plain : s.insertCard p = s.setBooth p (s.booth p).inserted := if_neg h
  rw [plain, State.setBooth_eq_change, State.change_rewrite]

theorem insertCard_resumes (h : (s.booth p).state = .vacant ∧ (s.booth p).foundUp) :
    s.insertCard p = (s.change p (s.rewrite (s.booth p).inserted (s.slot p))).startResumed p := by
  have resumed : s.insertCard p = (s.setBooth p (s.booth p).inserted).startResumed p := if_pos h
  rw [resumed, State.setBooth_eq_change]

theorem presenceStep_inserts (hfault : (s.booth p).state ≠ .fault) (hp : (s.booth p).present ≠ .yes) (hr : r ≠ .absent) :
    s.presenceStep p r = s.insertCard p := by
  unfold State.presenceStep
  dsimp only
  rw [if_neg hfault, if_neg hr, if_neg hp]

/-- A reply whose first step leaves the contexts of `t` acts as it does there (R120). -/
theorem exec_of_presence (htaking : s.taking) (htaking' : t.taking) (hc : replyOf c = some (p, r)) (hr : r ≠ .absent)
    (hfirst : (s.reach (replyIn p)).presenceStep p r = t.reach (replyIn p)) (hshown : (t.booth p).shown)
    (hslot : t.slot p = s.slot p) : exec c s = exec c t := by
  obtain ⟨bytes, hbytes⟩ := encodeReply_of_replyOf hc
  have second : (t.reach (replyIn p)).presenceStep p r = t.reach (replyIn p) := presenceStep_of_shown hshown hr
  rw [exec_reply htaking hc hbytes, exec_reply htaking' hc hbytes]
  unfold State.takeReply
  rw [hfirst, second, hslot]

/-- BUSY, and READY with no record, change nothing at a reader that shows its card (R126). -/
theorem exec_busy (htaking : s.taking) (hshown : (s.booth p).shown) (rest : BitVec 28) :
    exec (.busy p rest) s = .next (s.replied p (s.booth p) (s.slot p)
      (upstream (s.slot p).record (s.slot p).inFlight .busy ((0x140 : BitVec 12) ++ rest))) := by
  have still : (s.reach (replyIn p)).takeReply p (s.slot p).record .busy = s.reach (replyIn p) := by
    cases hrecord : (s.slot p).inFlight with
    | some y => exact (takeReply_kept (s := s.reach (replyIn p)) rfl hshown hrecord _).2
    | none =>
      rw [takeReply_of_idle (s := s.reach (replyIn p)) hshown (by nofun) hrecord (idle_opens_nothing (by nofun)),
        wordStep_of_wordless rfl, heldStep_of_spared rfl]
  exact exec_reply_of_change (c := .busy p rest) htaking hshown (by nofun) rfl rfl (still.trans (State.change_self _ p))

theorem exec_ready (htaking : s.taking) (hshown : (s.booth p).shown) (hidle : (s.slot p).inFlight = none)
    (rest : BitVec 28) : exec (.ready p rest) s = .next (s.replied p (s.booth p) (s.slot p)
      (upstream (s.slot p).record none .ready ((0x110 : BitVec 12) ++ rest))) := by
  have still : (s.reach (replyIn p)).takeReply p (s.slot p).record .ready = s.reach (replyIn p) := by
    rw [takeReply_of_idle (s := s.reach (replyIn p)) hshown (by nofun) hidle (idle_opens_nothing (by nofun)),
      wordStep_of_wordless rfl, heldStep_of_spared rfl]
  have done := exec_reply_of_change (c := .ready p rest) htaking hshown (by nofun) rfl rfl
    (still.trans (State.change_self _ p))
  rw [hidle] at done
  exact done

/-- What an insertion leaves behind: the contexts of `p` with a card shown, the interception context as it was, and the
records `rs`. -/
structure Inserts (p : Position) (b : Booth) (rs : List Report) (s : State) : Prop where
  first : ∀ r, r ≠ .absent → (s.reach (replyIn p)).presenceStep p r =
    (s.reach (replyIn p)).change p { s.rewrite b (s.slot p) with records := rs }
  shown : b.shown

/-- The state in which a reply acts, once the card is inserted. -/
def State.afterInsertion (s : State) (p : Position) (b : Booth) (rs : List Report) : State :=
  s.change p { s.rewrite b (s.slot p) with records := rs }

theorem afterInsertion_eq_posts (s : State) (p : Position) (b : Booth) (rs : List Report) :
    s.afterInsertion p b rs = (s.withContexts p b (s.slot p)).posts rs 0 := by
  rw [State.posts_eq_queued]
  rfl

variable {b b' : Booth} {rs : List Report}

theorem replied_afterInsertion (s : State) (p : Position) (b : Booth) (rs : List Report) (u : UpReply) :
    (s.afterInsertion p b rs).replied p b (s.slot p) u = (s.replied p b (s.slot p) u).posts rs 0 := by
  rw [State.posts_eq_queued]
  simp [State.replied, State.afterInsertion, State.change, State.rewrite, State.withContexts, State.setBooth, State.setSlot]

namespace Inserts

variable (h : Inserts p b rs s) (htaking : s.taking)
include h htaking

theorem exec_eq (hc : replyOf c = some (p, r)) (hr : r ≠ .absent) : exec c s = exec c (s.afterInsertion p b rs) := by
  refine exec_of_presence (t := s.afterInsertion p b rs) htaking htaking hc hr (h.first r hr) ?_ (State.change_slot ..)
  rw [State.afterInsertion, State.change_booth]
  exact h.shown

theorem exec_busy (rest : BitVec 28) :
    exec (.busy p rest) s = .next ((s.replied p b (s.slot p)
      (upstream (s.slot p).record (s.slot p).inFlight .busy ((0x140 : BitVec 12) ++ rest))).posts rs 0) := by
  have booth : (s.afterInsertion p b rs).booth p = b := State.change_booth ..
  have slot : (s.afterInsertion p b rs).slot p = s.slot p := State.change_slot ..
  have done := Machine.exec_busy (s := s.afterInsertion p b rs) (p := p) htaking (by rw [booth]; exact h.shown) rest
  rw [booth, slot, replied_afterInsertion] at done
  exact (h.exec_eq htaking rfl (by nofun)).trans done

theorem exec_ready (hidle : (s.slot p).inFlight = none) (rest : BitVec 28) :
    exec (.ready p rest) s = .next ((s.replied p b (s.slot p)
      (upstream (s.slot p).record none .ready ((0x110 : BitVec 12) ++ rest))).posts rs 0) := by
  have booth : (s.afterInsertion p b rs).booth p = b := State.change_booth ..
  have slot : (s.afterInsertion p b rs).slot p = s.slot p := State.change_slot ..
  have done := Machine.exec_ready (s := s.afterInsertion p b rs) (p := p) htaking (by rw [booth]; exact h.shown)
    (by rw [slot]; exact hidle) rest
  rw [booth, slot, replied_afterInsertion] at done
  exact (h.exec_eq htaking rfl (by nofun)).trans done

theorem exec_bare (hrow : s.rowSlot p) (hidle : (s.slot p).inFlight = none) (hc : replyOf c = some (p, r)) (hr : r ≠ .absent)
    (hopen : ∀ w, r ≠ .accepted w) (hword : r.wordless = true) :
    ∃ u, exec c s = .next ((s.replied p b (s.slot p) u).posts rs 0) := by
  have booth : (s.afterInsertion p b rs).booth p = b := State.change_booth ..
  have slot : (s.afterInsertion p b rs).slot p = s.slot p := State.change_slot ..
  have row : (s.afterInsertion p b rs).rowSlot p := by
    unfold State.rowSlot
    rw [slot]
    exact hrow
  obtain ⟨u, done⟩ := Machine.exec_bare (s := s.afterInsertion p b rs) htaking (by rw [booth]; exact h.shown)
    (by rw [slot]; exact hidle) row hc hr hopen hword
  rw [booth, slot, replied_afterInsertion] at done
  exact ⟨u, (h.exec_eq htaking hc hr).trans done⟩

end Inserts

theorem inserts_nothing (h : (s.booth p).shown) : Inserts p (s.booth p) [] s where
  first _ hr := (presenceStep_of_shown (s := s.reach (replyIn p)) h hr).trans (State.change_self _ p)
  shown := h

theorem inserts_card (hfault : (s.booth p).state ≠ .fault) (hp : (s.booth p).present ≠ .yes)
    (h : ¬ ((s.booth p).state = .vacant ∧ (s.booth p).foundUp)) : Inserts p (s.booth p).inserted [] s where
  first _ hr := (presenceStep_inserts (s := s.reach (replyIn p)) hfault hp hr).trans
    (insertCard_still (s.reach (replyIn p)) p h)
  shown := .inr rfl

/-- A card just inserted has no serial and no balance known (R6). -/
theorem inserts_call {e : TariffEntry} (hfault : (s.booth p).state ≠ .fault) (hp : (s.booth p).present ≠ .yes)
    (h : (s.booth p).state = .vacant ∧ (s.booth p).foundUp) (he : s.lookup s.settings.unknownBand = some e) :
    Inserts p { (s.booth p).inserted with
      state := .call, callUp := true, resumed := .no, bandAtAnswer := s.settings.unknownBand, rate := some e.rate,
      fraction := 0, callUnits := 0 } [] s where
  first _ hr := by
    have resumed := (insertCard_resumes (s := s.reach (replyIn p)) h).trans (State.change_startResumed_present he rfl)
    refine ((presenceStep_inserts (s := s.reach (replyIn p)) hfault hp hr).trans resumed).trans ?_
    rfl
  shown := .inr rfl

theorem inserts_unset (hfault : (s.booth p).state ≠ .fault) (hp : (s.booth p).present ≠ .yes)
    (h : (s.booth p).state = .vacant ∧ (s.booth p).foundUp) (he : s.lookup s.settings.unknownBand = none) :
    Inserts p ((s.booth p).inserted.resumedUnset s.settings.unknownBand s.settings.clearDownHold)
      [.clearDown p .tariffUnset] s where
  first _ hr := (presenceStep_inserts (s := s.reach (replyIn p)) hfault hp hr).trans
    ((insertCard_resumes (s := s.reach (replyIn p)) h).trans (State.change_startResumed_unset he))
  shown := .inr rfl

/-- Settles O15. -/
theorem readyAndBusyOnlyShowTheCard : Obligations.ReadyAndBusyOnlyShowTheCard := by
  intro s p rest cmd r htaking b c upBusy upReady shown resumes
  have found : resumes ↔ (b.state = .vacant ∧ b.foundUp) ∧ b.present ≠ .yes := by
    simp only [resumes, Booth.foundUp, decide_eq_true_eq]
    tauto
  have alive : resumes → b.state ≠ .fault := fun h => by
    rw [h.1]
    nofun
  refine ⟨fun hnot => ?_, fun hres => ⟨fun e he => ?_, fun he => ?_⟩, fun hc hr hfault hp => ⟨fun hnot => ?_, fun hres e he => ?_⟩⟩
  · intro b'
    have inserted : Inserts p b' [] s := by
      by_cases hshown : b.state = .fault ∨ b.present = .yes
      · rw [show b' = b from if_pos hshown]
        exact inserts_nothing hshown
      · rw [show b' = b.inserted from if_neg hshown]
        have hp : b.present ≠ .yes := fun h => hshown (.inr h)
        exact inserts_card (fun h => hshown (.inl h)) hp fun h => hnot (found.mpr ⟨h, hp⟩)
    exact ⟨inserted.exec_busy htaking rest, fun hidle => inserted.exec_ready htaking hidle rest⟩
  · have inserted := inserts_call (alive hres) (found.mp hres).2 (found.mp hres).1 he
    exact ⟨inserted.exec_busy htaking rest, fun hidle => inserted.exec_ready htaking hidle rest⟩
  · have inserted := inserts_unset (alive hres) (found.mp hres).2 (found.mp hres).1 he
    refine ⟨inserted.exec_busy htaking rest, fun hidle => inserted.exec_ready htaking hidle rest, fun hc hr => ?_⟩
    refine (inserted.exec_eq htaking hc hr).trans ?_
    rw [afterInsertion_eq_posts]
    rfl
  · have inserted := inserts_card hfault hp fun h => hnot (found.mpr ⟨h, hp⟩)
    refine ⟨inserted.exec_eq htaking hc hr, fun hrow hidle => ?_⟩
    dsimp only
    intro hbare
    have quiet : (∀ w, r ≠ .accepted w) ∧ r.wordless = true := by
      cases r with
      | error | unknown => exact ⟨nofun, rfl⟩
      | written a v | data a v => exact ⟨nofun, hbare⟩
      | _ => exact nomatch hbare
    obtain ⟨u, done⟩ := inserted.exec_bare htaking hrow hidle hc hr quiet.1 quiet.2
    exact ⟨u, done⟩
  · exact (inserts_call hfault hp (found.mp hres).1 he).exec_eq htaking hc hr

end Sys2Proof.Machine

/-! ## Debts that leave with a card: removal, FAULT entry and FAULT exit as commands (R9, R18, R19) -/

namespace Sys2Proof.Machine

variable {s t : State} {p q : Position} {x : Change} {b : Booth}

/-- What debts that leave `p` make of the list, the queue and the account, every other position staying as it was. -/
structure Departs (p : Position) (s t : State) (entries : List ArrearsEntry) (records : List Report) (dropped : Nat) :
    Prop where
  booths : OtherBooths p s t
  slots : OtherSlots p s t
  arrears : t.arrears = entries
  ledger : t.ledger = { s.ledger with dropped := s.ledger.dropped + dropped }
  reports : s.reports.length + records.length ≤ 32 → t.lost = s.lost ∧ t.reports = s.reports ++ records
  silent : records = [] → SameReports s t

theorem departs_change (s : State) (p : Position) (x : Change) {n : Nat} (ha : x.accrued = 0) (hd : x.debited = 0)
    (hn : x.dropped = n) : Departs p s (s.change p x) x.entries x.records n where
  booths := (localAt_change s p x).booths
  slots := (localAt_change s p x).slots
  arrears := rfl
  ledger := by
    rw [State.change_ledger, ha, hd, hn]
    rfl
  reports := State.change_reports
  silent h := by
    unfold SameReports State.change
    rw [h]
    exact ⟨rfl, rfl⟩

theorem departs_repliedWith (s : State) (p : Position) (x : Change) {n : Nat} (u : UpReply) (ha : x.accrued = 0)
    (hd : x.debited = 0) (hn : x.dropped = n) : Departs p s (s.repliedWith p x u) x.entries x.records n :=
  have h := departs_change s p { x with slot := { x.slot with record := none } } ha hd hn
  ⟨h.booths, h.slots, h.arrears, h.ledger, h.reports, h.silent⟩

/-- Nothing owed leaves nothing (R9). -/
theorem departure_of_nothing {u : Nat} {pair : Option Pair} (hu : u = 0) (hpair : pair = none) (l : List ArrearsEntry)
    (p : Position) (debt : Option Nat) : departure l p debt u pair = ⟨l, [], 0⟩ := if_pos ⟨hu, hpair⟩

theorem owes_of {u : Nat} {pair : Option Pair} (h : 0 < u ∨ pair.isSome = true) : ¬ (u = 0 ∧ pair = none) := by
  rintro ⟨rfl, rfl⟩
  exact h.elim (Nat.lt_irrefl 0) Bool.noConfusion

theorem owes_of_sum {u : Nat} {pair : Option Pair} (h : 0 < u + pairK pair) : ¬ (u = 0 ∧ pair = none) := by
  rintro ⟨rfl, rfl⟩
  exact Nat.lt_irrefl 0 h

/-- A debt under a serial that no entry carries makes one record and drops nothing (R75, R76). -/
theorem departure_new {u : Nat} {pair : Option Pair} (howed : ¬ (u = 0 ∧ pair = none)) {l : List ArrearsEntry} {n : Nat}
    (hn : ∀ e ∈ l, e.serial ≠ n) (hl : l.length < 32) (p : Position) :
    departure l p (some n) u pair = ⟨(openEntry l p n u pair).entries, [.opened p n u pair], 0⟩ := by
  obtain ⟨records, dropped⟩ := openEntry_new_records hn hl p u pair
  rw [departure_serial howed, records, dropped]

theorem noSerialRecords_length (p : Position) (n : Nat) : (noSerialRecords p n).length ≤ 2 := by
  unfold noSerialRecords
  split
  · exact Nat.le_succ 1
  · exact Nat.le_refl 2

/-- The debt serial, from the two halves of the serial (R1, R9). -/
theorem Booth.debtSerial_eq (b : Booth) : b.debtSerial = (match b.serialHigh, b.serialLow with
    | some h, some l => some (h * 65536 + l)
    | _, _ => match b.expected with
      | some n => some n
      | none => if b.callUp = true then b.lastSerial else none) := by
  unfold Booth.debtSerial Booth.serial
  cases b.serialHigh with
  | none => rfl
  | some h => cases b.serialLow <;> rfl

/-! ### Booths that their card has left (R4, R9) -/

/-- Entry to VACANT, field by field (R4, R160). -/
theorem Booth.enterVacant_eq (b : Booth) : b.enterVacant = { b with
    state := .vacant, mode := b.pendingMode.getD b.mode, pendingMode := none,
    resumed := if b.mode = .free ∧ b.pendingMode = some .charged then .no else b.resumed } := by
  unfold Booth.enterVacant Booth.applyMode
  cases h : b.pendingMode with
  | none => simp
  | some m =>
    by_cases hm : b.mode = .free ∧ m = .charged
    · simp [hm]
    · simp [hm]

theorem Booth.afterGone_card (h : b.state = .card) (graceTime : Nat) : b.afterGone graceTime = b.enterVacant := by
  unfold Booth.afterGone
  rw [h]

theorem Booth.afterGone_call (h : b.state = .call) (graceTime : Nat) :
    b.afterGone graceTime = { b with state := .grace, grace := graceTime * 10 } := by
  unfold Booth.afterGone
  rw [h]

theorem Booth.afterGone_other (h : b.state ≠ .card) (h' : b.state ≠ .call) (graceTime : Nat) : b.afterGone graceTime = b := by
  unfold Booth.afterGone
  split
  · exact absurd ‹_› h
  · exact absurd ‹_› h'
  · rfl

/-- What a removal leaves of its booth, but for mode, state, resume check and grace countdown (R9). -/
structure Booth.GoneTo (b b' : Booth) : Prop where
  present : b'.present = .no
  serialHigh : b'.serialHigh = none
  serialLow : b'.serialLow = none
  expected : b'.expected = none
  known : b'.known = none
  band : b'.band = none
  owed : b'.owed = 0
  pendingRes : b'.pendingRes = none
  callUp : b'.callUp = b.callUp
  rate : b'.rate = b.rate
  fraction : b'.fraction = b.fraction
  callUnits : b'.callUnits = b.callUnits
  lastSerial : b'.lastSerial = b.lastSerial
  bandAtAnswer : b'.bandAtAnswer = b.bandAtAnswer
  timer : b'.timer = b.timer

theorem Booth.goneTo (b : Booth) (graceTime : Nat) : b.GoneTo (b.gone.afterGone graceTime) := by
  by_cases hcard : b.gone.state = .card
  · rw [Booth.afterGone_card hcard, Booth.enterVacant_eq]
    constructor <;> rfl
  · by_cases hcall : b.gone.state = .call
    · rw [Booth.afterGone_call hcall]
      constructor <;> rfl
    · rw [Booth.afterGone_other hcard hcall]
      constructor <;> rfl

/-! ### ABSENT at a card (R9) -/

/-- What ABSENT shows once its first step has left no record. -/
def absentShown (s : State) (p : Position) (rest : BitVec 28) : UpReply :=
  upstream (s.slot p).record none .absent ((0x100 : BitVec 12) ++ rest)

theorem presenceStep_removes (hfault : (s.booth p).state ≠ .fault) (hp : (s.booth p).present = .yes) :
    s.presenceStep p .absent = s.removeCard p none := by
  unfold State.presenceStep
  dsimp only
  rw [if_neg hfault, if_pos rfl, hp]

theorem exec_absent_of_first (htaking : s.taking) (rest : BitVec 28)
    (hfirst : (s.reach (replyIn p)).presenceStep p .absent = t) (hidle : (t.slot p).inFlight = none) :
    exec (.absent p rest) s = .next (t.answer p (absentShown s p rest)) := by
  obtain rfl := hfirst
  have replied := exec_reply htaking (c := .absent p rest) (p := p) rfl rfl
  rw [takeReply_absent hidle, hidle] at replied
  exact replied

/-- ABSENT at a card, wherever its debt goes. -/
theorem exec_removal (h : s.cardHere p) (rest : BitVec 28) :
    exec (.absent p rest) s = .next (((s.reach (replyIn p)).removeCard p none).answer p (absentShown s p rest)) := by
  obtain ⟨htaking, hfault, hpresent⟩ := h
  refine exec_absent_of_first htaking rest (presenceStep_removes (s := s.reach (replyIn p)) hfault hpresent) ?_
  rw [(removeCard_position ..).2]
  rfl

/-- The change by a removal whose debt no other booth takes (R9). -/
def State.removal (s : State) (p : Position) : Change :=
  (s.rewrite ((s.booth p).gone.afterGone s.settings.graceTime) (s.slot p).emptied).depart p (s.booth p).debtSerial
    (s.booth p).owed (outPair (s.slot p) (s.booth p))

theorem answer_removal (h : s.Unclaimed p (s.booth p).debtSerial (s.booth p).owed (outPair (s.slot p) (s.booth p)))
    (u : UpReply) : ((s.reach (replyIn p)).removeCard p none).answer p u = s.repliedWith p (s.removal p) u := by
  have removed := (congrArg (fun t : State => t.removeCard p none) (State.change_self (s.reach (replyIn p)) p)).trans
    (State.change_removeCard (s := s.reach (replyIn p))
      (x := (s.reach (replyIn p)).rewrite ((s.reach (replyIn p)).booth p) ((s.reach (replyIn p)).slot p)) none h)
  exact (congrArg (fun t : State => t.answer p u) removed).trans (change_answer ..)

theorem departs_removal (h : s.Unclaimed p (s.booth p).debtSerial (s.booth p).owed (outPair (s.slot p) (s.booth p)))
    (u : UpReply) {d : Departure}
    (hd : departure s.arrears p (s.booth p).debtSerial (s.booth p).owed (outPair (s.slot p) (s.booth p)) = d) :
    Departs p s (((s.reach (replyIn p)).removeCard p none).answer p u) d.entries d.records d.dropped := by
  obtain rfl := hd
  rw [answer_removal h]
  exact departs_repliedWith s p (s.removal p) u rfl rfl (Nat.zero_add _)

theorem removal_position (s : State) (p : Position) (u : UpReply) :
    (((s.reach (replyIn p)).removeCard p none).answer p u).booth p = (s.booth p).gone.afterGone s.settings.graceTime ∧
      (((s.reach (replyIn p)).removeCard p none).answer p u).slot p = { (s.slot p).emptied with record := none } := by
  obtain ⟨booth, slot⟩ := removeCard_position (s.reach (replyIn p)) p none
  exact ⟨booth, (answer_slot ..).trans (congrArg (fun c : Intercept => { c with record := none }) slot)⟩

/-- Settles O26. -/
theorem absentRemovesTheCard : Obligations.AbsentRemovesTheCard := by
  intro s p rest h b
  have hexec := exec_removal h rest
  obtain ⟨port, tables, clocks, -⟩ := answer_rest (sameRest_removeCard (s.reach (replyIn p)) p none) (absentShown s p rest)
  obtain ⟨booth, slot⟩ := removal_position s p (absentShown s p rest)
  have nothing : b.owed = 0 → outPair (s.slot p) b = none → Departs p s
      (((s.reach (replyIn p)).removeCard p none).answer p (absentShown s p rest)) s.arrears [] 0 := by
    intro howed hpair
    have free : s.Unclaimed p b.debtSerial b.owed (outPair (s.slot p) b) := by
      rw [howed, hpair]
      exact unclaimed_nothing s p _
    exact departs_removal free _ (departure_of_nothing howed hpair ..)
  generalize ((s.reach (replyIn p)).removeCard p none).answer p (absentShown s p rest) = t at *
  have gone := b.goneTo s.settings.graceTime
  refine ⟨t, _, hexec, port, tables, clocks, slot, ?_⟩
  rw [booth]
  refine ⟨gone.present, gone.serialHigh, gone.serialLow, gone.expected, gone.known, gone.band, gone.owed,
    gone.pendingRes, gone.callUp, gone.rate, gone.fraction, gone.callUnits, gone.lastSerial, gone.bandAtAnswer,
    gone.timer, fun hcard => ?_, fun hcall => ?_, fun hcard => ?_, fun hcard hcall => ?_, fun howed hpair => ?_⟩
  · rw [Booth.afterGone_card (b := b.gone) hcard, Booth.enterVacant_eq]
    exact ⟨rfl, rfl, rfl⟩
  · rw [Booth.afterGone_call (b := b.gone) hcall]
    exact ⟨rfl, rfl⟩
  · by_cases hcall : b.state = .call
    · rw [Booth.afterGone_call (b := b.gone) hcall]
      exact ⟨rfl, rfl⟩
    · rw [Booth.afterGone_other (b := b.gone) hcard hcall]
      exact ⟨rfl, rfl⟩
  · rw [Booth.afterGone_other (b := b.gone) hcard hcall]
    exact ⟨rfl, rfl⟩
  · have left := nothing howed hpair
    exact ⟨left.booths, left.slots, left.silent rfl, left.arrears, left.ledger⟩

/-- Settles O29. -/
theorem removalWithoutSerialDropsTheUnits : Obligations.RemovalWithoutSerialDropsTheUnits := by
  intro s p rest h hdebt hroom sum dropped hsum
  have left := departs_removal (u := absentShown s p rest) (hdebt ▸ unclaimed_noSerial s p _ _)
    ((congrArg (departure s.arrears p · _ _) hdebt).trans (departure_noSerial (owes_of_sum hsum) ..))
  obtain ⟨lost, reports⟩ := left.reports (Nat.le_trans (Nat.add_le_add_left (noSerialRecords_length p sum) _) hroom)
  exact ⟨_, exec_removal h rest, left.arrears, left.booths, lost, left.ledger, reports⟩

/-! ### Openings in the list (R73 to R76) -/

/-- A merge into the entry that carries the serial (R73, R74). -/
theorem openEntry_merge {l : List ArrearsEntry} {n : Nat} {e : ArrearsEntry} (h : findEntry l n = some e) (q : Position)
    (u : Nat) (pair : Option Pair) : openEntry l q n u pair =
      { entries := l.filter (fun x => x.serial ≠ n) ++
          [{ serial := n, owed := min 65535 (e.owed + u), pair := if e.pair.isSome then e.pair else pair, age := 0,
             origin := q }],
        evicted := none, excess := e.owed + u - 65535,
        unresolved := if e.pair.isSome then pair.map Pair.k else none } := by
  unfold openEntry
  rw [h]
  dsimp only
  cases e.pair <;> rfl

/-- A new entry in a full list evicts the oldest (R75). -/
theorem openEntry_evict {l : List ArrearsEntry} {n : Nat} {e : ArrearsEntry} (h : ∀ x ∈ e :: l, x.serial ≠ n)
    (hl : 32 ≤ (e :: l).length) (q : Position) (u : Nat) (pair : Option Pair) : openEntry (e :: l) q n u pair =
      { entries := l ++ [{ serial := n, owed := u, pair := pair, age := 0, origin := q }], evicted := some e,
        excess := 0, unresolved := none } := by
  have none : findEntry (e :: l) n = none := List.find?_eq_none.mpr fun x hx => by simpa using h x hx
  unfold openEntry
  rw [none]
  dsimp only
  rw [if_pos hl, if_pos hl]
  rfl

/-- The units and the records of the k that an entry cannot take (R73). -/
theorem unresolved_eq (e : ArrearsEntry) (pair : Option Pair) (p : Position) :
    ((if e.pair.isSome then pair.map Pair.k else none).getD 0 = if e.pair.isSome then pairK pair else 0) ∧
      ((if e.pair.isSome then pair.map Pair.k else none).elim [] fun k => [Report.unitsDropped p k .unresolved]) =
        if e.pair.isSome ∧ pair.isSome then
          [.unitsDropped p (if e.pair.isSome then pairK pair else 0) .unresolved] else [] := by
  cases e.pair <;> cases pair <;> simp [pairK]

/-- The records of a merge and the units that it drops (R73, R74, R76). -/
theorem openEntry_merge_records {l : List ArrearsEntry} {n : Nat} {e : ArrearsEntry} (h : findEntry l n = some e)
    (p : Position) (u : Nat) (pair : Option Pair) :
    (openEntry l p n u pair).records p n u pair = .opened p n u pair ::
        ((if 0 < e.owed + u - 65535 then [.unitsDropped p (e.owed + u - 65535) .saturated] else []) ++
          if e.pair.isSome ∧ pair.isSome then
            [.unitsDropped p (if e.pair.isSome then pairK pair else 0) .unresolved] else []) ∧
      (openEntry l p n u pair).dropped = e.owed + u - 65535 + if e.pair.isSome then pairK pair else 0 := by
  obtain ⟨units, records⟩ := unresolved_eq e pair p
  rw [openEntry_merge h]
  unfold Opening.records Opening.dropped
  dsimp only
  rw [records, units, Nat.zero_add]
  exact ⟨rfl, rfl⟩

/-- Settles O27: merge, new entry and eviction. -/
theorem removalOpensArrearsInTheList : Obligations.RemovalOpensArrearsInTheList := by
  intro s p n w h b pair hdebt howed hfree hroom opened
  have hexec := exec_removal h w
  have free : s.Unclaimed p b.debtSerial b.owed pair := by
    rw [hdebt]
    rintro m hm - q hq
    obtain rfl := Option.some.inj hm
    exact hfree q hq
  have left := departs_removal free (absentShown s p w)
    ((congrArg (departure s.arrears p · _ _) hdebt).trans (departure_serial (owes_of howed) ..))
  generalize ((s.reach (replyIn p)).removeCard p none).answer p (absentShown s p w) = t at *
  refine ⟨fun e he => ?_, fun hnew hlen => ?_, fun e rest hnew hlist hlen => ?_⟩
  · intro excess unresolved dropped
    obtain ⟨records, units⟩ := openEntry_merge_records he p b.owed pair
    rw [records, units, openEntry_merge he] at left
    obtain ⟨lost, reports⟩ := left.reports (by
      have short : ∀ (c d : Prop) [Decidable c] [Decidable d] (x y : Report),
          (opened :: ((if c then [x] else []) ++ if d then [y] else [])).length ≤ 3 := by
        intro c d _ _ x y
        split <;> split <;> simp
      exact Nat.le_trans (Nat.add_le_add_left (short ..) _) hroom)
    exact ⟨t, hexec, left.arrears, reports, lost, left.ledger⟩
  · obtain ⟨records, none⟩ := openEntry_new_records hnew hlen p b.owed pair
    rw [records, none, openEntry_new hnew hlen] at left
    obtain ⟨lost, reports⟩ := left.reports (by simp only [List.length_singleton]; omega)
    exact ⟨t, hexec, left.arrears, reports, lost, left.ledger⟩
  · intro evicted
    rw [hlist] at hnew hlen left
    rw [openEntry_evict hnew hlen] at left
    obtain ⟨lost, reports⟩ := left.reports (by
      have short : ∀ (c : Prop) [Decidable c] (x y z : Report), (x :: ((if c then [y] else []) ++ [z])).length ≤ 3 := by
        intro c _ x y z
        split <;> simp
      exact Nat.le_trans (Nat.add_le_add_left (short (65535 < e.units) _ _ _) _) hroom)
    exact ⟨t, hexec, left.arrears, reports, lost, left.ledger⟩

end Sys2Proof.Machine

/-! ## FAULT entry and exit, and card changes, as commands (R8, R18, R19, R149 to R153) -/

namespace Sys2Proof.Machine

variable {s t : State} {p q : Position} {x : Change} {b : Booth}

theorem unclaimed_of_serial {debt : Option Nat} {n u : Nat} {pair : Option Pair} (hdebt : debt = some n)
    (hfree : ∀ q, q ≠ p → (s.booth q).holds n = false) : s.Unclaimed p debt u pair := by
  rintro m hm - q hq
  obtain rfl := Option.some.inj (hdebt.symm.trans hm)
  exact hfree q hq

theorem unclaimed_of_nothing {debt : Option Nat} {u : Nat} {pair : Option Pair} (hu : u = 0) (hpair : pair = none) :
    s.Unclaimed p debt u pair := fun _ _ h => absurd ⟨hu, hpair⟩ h

theorem unclaimed_of_noSerial {debt : Option Nat} {u : Nat} {pair : Option Pair} (hdebt : debt = none) :
    s.Unclaimed p debt u pair := fun _ h => nomatch hdebt.symm.trans h

/-- The departure of a debt that no booth takes, in each of its three cases (R9). -/
theorem departure_cases (l : List ArrearsEntry) (p : Position) (debt : Option Nat) (u : Nat) (pair : Option Pair) :
    (u = 0 → pair = none → departure l p debt u pair = ⟨l, [], 0⟩) ∧
    (∀ n, debt = some n → ¬ (u = 0 ∧ pair = none) → (departure l p debt u pair).entries = (openEntry l p n u pair).entries ∧
      ((∀ e ∈ l, e.serial ≠ n) → l.length < 32 →
        departure l p debt u pair = ⟨(openEntry l p n u pair).entries, [.opened p n u pair], 0⟩)) ∧
    (debt = none → ¬ (u = 0 ∧ pair = none) →
      departure l p debt u pair = ⟨l, noSerialRecords p (u + pairK pair), u + pairK pair⟩) := by
  refine ⟨fun hu hpair => departure_of_nothing hu hpair .., ?_, ?_⟩
  · rintro n rfl howed
    exact ⟨congrArg Departure.entries (departure_serial howed ..), fun hnew hlen => departure_new howed hnew hlen p⟩
  · rintro rfl howed
    exact departure_noSerial howed ..

/-! ### ABSENT in FAULT (R19) -/

/-- The records of a call that ends (R17). -/
def Booth.endRecords (b : Booth) (p : Position) : List Report := if b.callUp then [.callEnd p b] else []

/-- The change by a FAULT exit whose W no booth takes (R19). -/
def State.faultExit (s : State) (p : Position) : Change :=
  let x := (s.rewrite (s.booth p).leftFault (s.slot p).emptied).depart p (s.booth p).lastSerial (s.booth p).owed none
  { x with records := x.records ++ (s.booth p).endRecords p }

theorem presenceStep_leavesFault (hfault : (s.booth p).state = .fault) : s.presenceStep p .absent = s.leaveFault p := by
  unfold State.presenceStep
  dsimp only
  rw [if_pos hfault, if_pos rfl]

theorem exec_faultExit (htaking : s.taking) (hfault : (s.booth p).state = .fault) (rest : BitVec 28) :
    exec (.absent p rest) s = .next (((s.reach (replyIn p)).leaveFault p).answer p (absentShown s p rest)) := by
  refine exec_absent_of_first htaking rest (presenceStep_leavesFault (s := s.reach (replyIn p)) hfault) ?_
  rw [(leaveFault_position ..).2]
  rfl

theorem departs_faultExit (h : s.Unclaimed p (s.booth p).lastSerial (s.booth p).owed none) (u : UpReply) {d : Departure}
    (hd : departure s.arrears p (s.booth p).lastSerial (s.booth p).owed none = d) :
    Departs p s (((s.reach (replyIn p)).leaveFault p).answer p u) d.entries (d.records ++ (s.booth p).endRecords p)
      d.dropped := by
  obtain rfl := hd
  have left := (congrArg (fun t : State => t.leaveFault p) (State.change_self (s.reach (replyIn p)) p)).trans
    (State.change_leaveFault (s := s.reach (replyIn p))
      (x := (s.reach (replyIn p)).rewrite ((s.reach (replyIn p)).booth p) ((s.reach (replyIn p)).slot p)) h)
  rw [State.change_placeIf] at left
  have answered := (congrArg (fun t : State => t.answer p u) left).trans (change_answer ..)
  rw [answered]
  exact departs_repliedWith s p (s.faultExit p) u rfl rfl (Nat.zero_add _)

/-- Settles O30. -/
theorem absentEndsFault : Obligations.AbsentEndsFault := by
  intro s p rest htaking hfault b ended
  have hexec := exec_faultExit htaking hfault rest
  obtain ⟨port, tables, clocks, -⟩ := answer_rest (sameRest_leaveFault (s.reach (replyIn p)) p) (absentShown s p rest)
  obtain ⟨booth, slot⟩ := leaveFault_position (s.reach (replyIn p)) p
  have left := fun h d hd => departs_faultExit (s := s) (p := p) (d := d) h (absentShown s p rest) hd
  obtain ⟨nothing, serial, noSerial⟩ := departure_cases s.arrears p b.lastSerial b.owed none
  have position : (((s.reach (replyIn p)).leaveFault p).answer p (absentShown s p rest)).slot p =
      { (s.slot p).emptied with record := none } :=
    (answer_slot ..).trans (congrArg (fun c : Intercept => { c with record := none }) slot)
  have vacant : (((s.reach (replyIn p)).leaveFault p).answer p (absentShown s p rest)).booth p = b.leftFault := booth
  generalize ((s.reach (replyIn p)).leaveFault p).answer p (absentShown s p rest) = t at *
  have short : ended.length ≤ 1 := by
    simp only [ended]
    split <;> simp
  refine ⟨t, _, hexec, port, tables, clocks, position, ?_⟩
  rw [vacant, Booth.leftFault, Booth.enterVacant_eq]
  refine ⟨rfl, rfl, rfl, rfl, rfl, rfl, rfl, rfl, rfl, rfl, fun howed hroom => ?_, fun n howed hn hfree => ?_,
    fun howed hmax hn hroom => ?_⟩
  · have gone := left (unclaimed_of_nothing howed rfl) _ (nothing howed rfl)
    obtain ⟨lost, reports⟩ := gone.reports (Nat.le_trans (Nat.add_le_add_left short _) hroom)
    exact ⟨gone.booths, gone.slots, gone.arrears, gone.ledger, lost, reports⟩
  · have owes : ¬ (b.owed = 0 ∧ (none : Option Pair) = none) := owes_of (.inl howed)
    obtain ⟨entries, new⟩ := serial n hn owes
    have free := unclaimed_of_serial (u := b.owed) (pair := none) hn hfree
    have gone := left free _ rfl
    refine ⟨gone.booths, gone.slots, gone.arrears.trans entries, fun hnew hlen hroom => ?_⟩
    have gone := left free _ (new hnew hlen)
    obtain ⟨lost, reports⟩ := gone.reports (by
      refine Nat.le_trans (Nat.add_le_add_left ?_ _) hroom
      exact Nat.add_le_add_right short 1)
    exact ⟨gone.ledger, lost, reports⟩
  · have owes : ¬ (b.owed = 0 ∧ (none : Option Pair) = none) := owes_of (.inl howed)
    have gone := left (unclaimed_of_noSerial hn) _ (noSerial hn owes)
    have one : noSerialRecords p (b.owed + pairK none) = [.unitsDropped p b.owed .noSerial] := if_pos hmax
    rw [one] at gone
    obtain ⟨lost, reports⟩ := gone.reports (by
      refine Nat.le_trans (Nat.add_le_add_left ?_ _) hroom
      exact Nat.add_le_add_right short 1)
    exact ⟨gone.booths, gone.slots, gone.arrears, lost, gone.ledger, reports⟩

/-! ### Write timeouts (R149, R151, R152) -/

theorem writeTimeout_of_running (h : s.running) : exec (.writeTimeout p) s =
    .next (if ((s.slot p).inFlight.any fun r => Config.writeTimeoutFrames ≤ r.frames + 1) then s.declareFault p else s) :=
  congrArg Host.Outcome.next (State.live_of_running h _)

theorem writeTimeout_due (h : s.running) {y : InFlight} (hrecord : (s.slot p).inFlight = some y) (hdue : 16 ≤ y.frames + 1) :
    exec (.writeTimeout p) s = .next (s.declareFault p) := by
  have due : ((s.slot p).inFlight.any fun r => Config.writeTimeoutFrames ≤ r.frames + 1) = true := by
    rw [hrecord]
    exact decide_eq_true hdue
  rw [writeTimeout_of_running h, if_pos due]

theorem writeTimeout_early (h : s.running) (hearly : ∀ y, (s.slot p).inFlight = some y → y.frames + 1 < 16) :
    exec (.writeTimeout p) s = .next s := by
  have early : ¬ ((s.slot p).inFlight.any fun r => Config.writeTimeoutFrames ≤ r.frames + 1) = true := by
    cases hrecord : (s.slot p).inFlight with
    | none => exact Bool.false_ne_true
    | some y => exact fun hdue => absurd (hearly y hrecord) (Nat.not_lt.mpr (of_decide_eq_true hdue))
  rw [writeTimeout_of_running h, if_neg early]

/-- The CLEAR-DOWN record of a FAULT entry with a call up (R18). -/
def Booth.faultRecords (b : Booth) (p : Position) : List Report := if b.callUp then [.clearDown p .readerFault] else []

theorem departs_faultEntry (h : s.Unclaimed p (s.booth p).debtSerial (s.booth p).owed (outPair (s.slot p) (s.booth p)))
    {d : Departure} (hd : departure s.arrears p (s.booth p).debtSerial (s.booth p).owed (outPair (s.slot p) (s.booth p)) = d) :
    Departs p s (s.enterFault p) d.entries (.atPosition .readerFault p :: (d.records ++ (s.booth p).faultRecords p))
      d.dropped := by
  obtain rfl := hd
  have left := (congrArg (fun t : State => t.enterFault p) (State.change_self s p)).trans
    (State.change_enterFault (s := s) (x := s.rewrite (s.booth p) (s.slot p)) h)
  rw [State.change_placeIf] at left
  rw [left]
  exact departs_change s p _ rfl rfl (Nat.zero_add _)

theorem declareFault_again (hfault : (s.booth p).state = .fault) : s.declareFault p =
    (s.withContexts p (s.booth p) (s.slot p).cleared).place (.atPosition .readerFault p) := by
  unfold State.declareFault
  rw [if_pos hfault, State.onSlot_eq, State.place_slot, State.place_setSlot, State.withContexts, State.setBooth_booth]
  rfl

/-- Settles O24. -/
theorem faultEntryForgetsTheCard : Obligations.FaultEntryForgetsTheCard := by
  intro s p hrunning b c pair debt sum dropped fault cleared
  have short : cleared.length ≤ 1 := by
    simp only [cleared]
    split <;> simp
  refine ⟨fun y hrecord hdue hstate => ?_, fun y hrecord hdue hstate => ?_, writeTimeout_early hrunning⟩
  · have entered : s.declareFault p = s.enterFault p := if_neg hstate
    have hexec := (writeTimeout_due hrunning hrecord hdue).trans (congrArg Host.Outcome.next entered)
    obtain ⟨booth, slot⟩ := enterFault_position s p
    have rest := sameRest_enterFault s p
    have hdebt : b.debtSerial = debt := b.debtSerial_eq
    have left := fun h d hd => departs_faultEntry (s := s) (p := p) (d := d) h hd
    obtain ⟨nothing, serial, noSerial⟩ := departure_cases s.arrears p b.debtSerial b.owed pair
    generalize s.enterFault p = t at *
    refine ⟨t, hexec, rest, booth, slot, fun howed hpair hroom => ?_, fun n hn howed hfree => ?_, fun hn hsum hroom => ?_⟩
    · have gone := left (unclaimed_of_nothing howed hpair) _ (nothing howed hpair)
      obtain ⟨-, reports⟩ := gone.reports (by
        refine Nat.le_trans (Nat.add_le_add_left ?_ _) hroom
        exact Nat.succ_le_succ short)
      exact ⟨gone.arrears, gone.ledger, gone.booths, gone.slots, reports⟩
    · obtain ⟨entries, new⟩ := serial n (hdebt.trans hn) (owes_of howed)
      have free := unclaimed_of_serial (u := b.owed) (pair := pair) (hdebt.trans hn) hfree
      have gone := left free _ rfl
      refine ⟨gone.booths, gone.slots, gone.arrears.trans entries, fun hnew hlen hroom => ?_⟩
      have gone := left free _ (new hnew hlen)
      obtain ⟨lost, reports⟩ := gone.reports (by
        refine Nat.le_trans (Nat.add_le_add_left ?_ _) hroom
        exact Nat.succ_le_succ (Nat.succ_le_succ short))
      exact ⟨gone.ledger, lost, reports⟩
    · have gone := left (unclaimed_of_noSerial (hdebt.trans hn)) _ (noSerial (hdebt.trans hn) (owes_of_sum hsum))
      obtain ⟨lost, reports⟩ := gone.reports (by
        refine Nat.le_trans (Nat.add_le_add_left ?_ _) hroom
        have two := noSerialRecords_length p sum
        have total : (noSerialRecords p sum ++ cleared).length ≤ 3 := by
          rw [List.length_append]
          omega
        exact Nat.succ_le_succ total)
      exact ⟨gone.booths, gone.slots, gone.arrears, lost, gone.ledger, reports⟩
  · exact (writeTimeout_due hrunning hrecord hdue).trans (congrArg Host.Outcome.next (declareFault_again hstate))

end Sys2Proof.Machine

/-! ## Card changes (R8) -/

namespace Sys2Proof.Machine

variable {s t : State} {p q : Position} {x : Change} {b : Booth}

@[simp] theorem State.change_withContexts (b : Booth) (c : Intercept) :
    (s.change p x).withContexts p b c = s.change p { x with booth := b, slot := c } := by
  rw [State.withContexts, State.change_setBooth, State.change_setSlot]

/-! ### The booth after a card change -/

theorem Booth.gone_foundUp (b : Booth) : b.gone.foundUp = b.foundUp := rfl

/-- The pending mode of a booth whose resume check has not found a call up does not bring one up (R20). -/
theorem Booth.enterVacant_foundUp (h : b.foundUp = false) : b.enterVacant.foundUp = false := by
  rw [Booth.enterVacant_eq]
  unfold Booth.foundUp at h ⊢
  rw [decide_eq_false_iff_not] at h ⊢
  dsimp only
  rintro ⟨hmode, hresumed, first⟩
  split at hresumed
  · exact nomatch hresumed
  next hchange =>
    refine h ⟨?_, hresumed, first⟩
    cases hm : b.mode with
    | charged => rfl
    | free =>
      cases hpending : b.pendingMode with
      | none =>
        rw [hm, hpending] at hmode
        exact hmode
      | some m =>
        rw [hpending] at hmode
        obtain rfl : m = .charged := hmode
        exact absurd ⟨hm, hpending⟩ hchange

/-- No call is resumed at the card that takes the place of another (R8, R20). -/
theorem Booth.afterGone_not_resumes (hfound : b.foundUp = false) (hstate : b.state ≠ .vacant) (graceTime : Nat) :
    ¬ ((b.gone.afterGone graceTime).state = .vacant ∧ (b.gone.afterGone graceTime).foundUp) := by
  rintro ⟨hvacant, hup⟩
  by_cases hcard : b.gone.state = .card
  · rw [Booth.afterGone_card hcard, Booth.enterVacant_foundUp ((b.gone_foundUp).trans hfound)] at hup
    exact nomatch hup
  · by_cases hcall : b.gone.state = .call
    · rw [Booth.afterGone_call hcall] at hvacant
      exact nomatch hvacant
    · rw [Booth.afterGone_other hcard hcall] at hvacant
      exact hstate hvacant

/-- The booth of a card that has taken the place of another, with nothing of it known yet (R8). -/
def Booth.swapped (b : Booth) (graceTime : Nat) : Booth := (b.gone.afterGone graceTime).inserted

/-- What a card change leaves of its booth, field by field (R6, R8, R9). -/
theorem Booth.swapped_eq (hstate : b.state ≠ .vacant) (graceTime : Nat) : b.swapped graceTime = { b with
    present := .yes, serialHigh := none, serialLow := none, expected := none, known := none, band := none, owed := 0,
    pendingRes := none,
    mode := if b.state = .card then b.pendingMode.getD b.mode else b.mode,
    pendingMode := if b.state = .card then none else b.pendingMode,
    resumed := if b.state = .card ∧ b.mode = .free ∧ b.pendingMode = some .charged then .no else b.resumed,
    state := if b.state = .call then .grace else b.state,
    grace := if b.state = .call then graceTime * 10 else b.grace } := by
  unfold Booth.swapped Booth.inserted
  by_cases hcard : b.state = .card
  · rw [Booth.afterGone_card (b := b.gone) hcard, Booth.enterVacant_eq]
    simp [Booth.gone, Booth.forgetCard, hcard]
  · by_cases hcall : b.state = .call
    · rw [Booth.afterGone_call (b := b.gone) hcall]
      simp [Booth.gone, Booth.forgetCard, hcall]
    · rw [Booth.afterGone_other (b := b.gone) hcard hcall]
      simp [Booth.gone, Booth.forgetCard, hcard, hcall, hstate]

/-- A card change: the removal of the old card and the insertion of the new one (R8). -/
theorem cardChange_eq (hfound : (s.booth p).foundUp = false) (hstate : (s.booth p).state ≠ .vacant) (fixed : Option Nat) :
    (s.removeCard p fixed).insertCard p =
      (s.removeCard p fixed).withContexts p ((s.booth p).swapped s.settings.graceTime) (s.slot p).emptied := by
  obtain ⟨booth, slot⟩ := removeCard_position s p fixed
  rw [insertCard_still _ p (by rw [booth]; exact Booth.afterGone_not_resumes hfound hstate _), booth, slot]
  rfl

theorem sameRest_withContexts (s : State) (p : Position) (b : Booth) (c : Intercept) : SameRest s (s.withContexts p b c) :=
  SameRest.refl s

theorem State.withContexts_setBooth (s : State) (p : Position) (b b' : Booth) (c : Intercept) :
    (s.withContexts p b c).setBooth p b' = s.withContexts p b' c := by
  simp [State.withContexts, State.setBooth, State.setSlot]

/-- A half that contradicts the known one (R8). -/
theorem readHalf_contradicts {high : Bool} {v w : Nat}
    (hhalf : (if high then (s.booth p).serialHigh else (s.booth p).serialLow) = some w) (hne : w ≠ v)
    (hfound : (s.booth p).foundUp = false) (hstate : (s.booth p).state ≠ .vacant) :
    s.readHalf p high v = (s.removeCard p none).withContexts p
      (((s.booth p).swapped s.settings.graceTime).withHalf high v) (s.slot p).emptied := by
  unfold State.readHalf
  rw [hhalf]
  dsimp only
  rw [if_neg hne, cardChange_eq hfound hstate, State.onBooth_eq, State.withContexts_booth, State.withContexts_setBooth]

/-- The change by a card change whose old debt no other booth takes (R8, R9). -/
theorem State.change_cardChange (fixed : Option Nat) (b : Booth)
    (h : s.Unclaimed p (x.booth.owedUnder fixed) x.booth.owed (outPair x.slot x.booth)) :
    ((s.change p x).removeCard p fixed).withContexts p b x.slot.emptied =
      s.change p (({ x with booth := b, slot := x.slot.emptied } : Change).depart p (x.booth.owedUnder fixed) x.booth.owed
        (outPair x.slot x.booth)) := by
  rw [State.change_removeCard fixed h, State.change_withContexts]
  rfl

/-- A DATA whose word is dealt with by a change of the contexts of `p` in a state `t`. -/
theorem exec_data_contexts (h : s.cardHere p) (hidle : (s.slot p).inFlight = none) {a : WordAddr} {v : Word} (last : Byte)
    {b : Booth} {c : Intercept}
    (hword : (s.reach (replyIn p)).wordStep p (ownSlot (s.slot p).record) (.data a v) = t.withContexts p b c)
    (hheld : c.held = none) :
    exec (.data p a v last) s = .next ((t.withContexts p b c).answer p
      (upstream (s.slot p).record none (.data a v) ((0x120 : BitVec 12) ++ a ++ v ++ last))) := by
  obtain ⟨htaking, -, hpresent⟩ := h
  have hshown : (s.booth p).shown := .inr hpresent
  have replied := exec_reply htaking (c := .data p a v last) (p := p) rfl rfl
  have kept : c.afterData (ownSlot (s.slot p).record) a = c := by
    unfold Intercept.afterData
    rw [hheld]
    simp [← hheld]
  have same : (t.withContexts p b c).setSlot p c = t.withContexts p b c := State.setSlot_setSlot ..
  rw [takeReply_data (s := s.reach (replyIn p)) hshown hidle, hword, State.withContexts_slot, kept, same,
    presenceStep_of_shown (s := s.reach (replyIn p)) hshown (by nofun), State.reach_slot, hidle,
    replyBytes_words_append] at replied
  exact replied

theorem answered_contexts (s : State) (p : Position) (b : Booth) (c : Intercept) (u : UpReply) :
    ((s.withContexts p b c).answer p u).booth p = b ∧
      ((s.withContexts p b c).answer p u).slot p = { c with record := none } :=
  ⟨s.withContexts_booth p b c, (answer_slot ..).trans
    (congrArg (fun c : Intercept => { c with record := none }) (s.withContexts_slot p b c))⟩

theorem departs_cardChange (fixed : Option Nat) (b : Booth) (u : UpReply)
    (h : s.Unclaimed p ((s.booth p).owedUnder fixed) (s.booth p).owed (outPair (s.slot p) (s.booth p))) {d : Departure}
    (hd : departure s.arrears p ((s.booth p).owedUnder fixed) (s.booth p).owed (outPair (s.slot p) (s.booth p)) = d) :
    Departs p s ((((s.reach (replyIn p)).removeCard p fixed).withContexts p b (s.slot p).emptied).answer p u) d.entries
      d.records d.dropped := by
  obtain rfl := hd
  have left := (congrArg (fun t : State => (t.removeCard p fixed).withContexts p b (s.slot p).emptied)
      (State.change_self (s.reach (replyIn p)) p)).trans
    (State.change_cardChange (s := s.reach (replyIn p))
      (x := (s.reach (replyIn p)).rewrite ((s.reach (replyIn p)).booth p) ((s.reach (replyIn p)).slot p)) fixed b h)
  have answered := (congrArg (fun t : State => t.answer p u) left).trans (change_answer ..)
  rw [answered]
  exact departs_repliedWith s p _ u rfl rfl (Nat.zero_add _)

/-- What the DATA of a serial half shows where no record is held. -/
def halfShown (s : State) (p : Position) (high : Bool) (v : Word) (last : Byte) : UpReply :=
  upstream (s.slot p).record none (.data (if high then 0 else 1) v)
    ((0x120 : BitVec 12) ++ (if high then 0 else 1 : WordAddr) ++ v ++ last)

/-- The state after a card change that a contradicting half makes (R8). -/
def State.afterCardChange (s : State) (p : Position) (high : Bool) (v : Word) (last : Byte) : State :=
  (((s.reach (replyIn p)).removeCard p none).withContexts p
    (((s.booth p).swapped s.settings.graceTime).withHalf high v.toNat) (s.slot p).emptied).answer p
      (halfShown s p high v last)

theorem wordStep_half (hfault : (s.booth p).state ≠ .fault) (own high : Bool) (v : Word) :
    s.wordStep p own (.data (if high then 0 else 1) v) = s.readHalf p high v.toNat := by
  unfold State.wordStep
  rw [if_neg hfault]
  cases high <;> rfl

theorem exec_cardChange (h : s.cardHere p) (hidle : (s.slot p).inFlight = none) {high : Bool} {w : Nat} {v : Word}
    (last : Byte) (hhalf : (if high then (s.booth p).serialHigh else (s.booth p).serialLow) = some w) (hne : w ≠ v.toNat)
    (hfound : (s.booth p).foundUp = false) (hstate : (s.booth p).state ≠ .vacant) :
    exec (.data p (if high then 0 else 1) v last) s = .next (s.afterCardChange p high v last) :=
  exec_data_contexts h hidle last ((wordStep_half (s := s.reach (replyIn p)) h.2.1 _ high v).trans
    (readHalf_contradicts (s := s.reach (replyIn p)) hhalf hne hfound hstate)) rfl

/-- Settles O22. -/
theorem contradictingHalfIsACardChange : Obligations.ContradictingHalfIsACardChange := by
  intro s p high w v last h hidle hhalf hne hfound hstate b pair debt sum dropped
  have hexec := exec_cardChange h hidle last hhalf hne hfound hstate
  obtain ⟨port, tables, clocks, -⟩ := answer_rest ((sameRest_removeCard (s.reach (replyIn p)) p none).trans
    (sameRest_withContexts _ p ((b.swapped s.settings.graceTime).withHalf high v.toNat) (s.slot p).emptied))
    (halfShown s p high v last)
  have left := fun hfree d hd => departs_cardChange (s := s) (p := p) (d := d) none
    ((b.swapped s.settings.graceTime).withHalf high v.toNat) (halfShown s p high v last) hfree hd
  obtain ⟨booth, slot⟩ := answered_contexts ((s.reach (replyIn p)).removeCard p none) p
    ((b.swapped s.settings.graceTime).withHalf high v.toNat) (s.slot p).emptied (halfShown s p high v last)
  obtain ⟨nothing, serial, noSerial⟩ := departure_cases s.arrears p b.debtSerial b.owed pair
  have hdebt : b.debtSerial = debt := b.debtSerial_eq
  unfold State.afterCardChange at hexec
  generalize (((s.reach (replyIn p)).removeCard p none).withContexts p
    (((s.booth p).swapped s.settings.graceTime).withHalf high v.toNat) (s.slot p).emptied).answer p
      (halfShown s p high v last) = t at *
  refine ⟨t, _, hexec, port, tables, clocks, slot, ?_⟩
  rw [booth, Booth.swapped_eq hstate, Booth.withHalf_eq]
  refine ⟨rfl, rfl, rfl, rfl, rfl, rfl, rfl, rfl, rfl, rfl, rfl, rfl, rfl, rfl, fun hcall => ⟨if_pos hcall, if_pos hcall⟩,
    fun hcard => ⟨?_, if_pos hcard, if_pos hcard⟩, fun hcall _ => ⟨if_neg hcall, if_neg hcall⟩, fun howed hpair => ?_,
    fun n hn howed hfree => ?_, fun hn hsum hroom => ?_⟩
  · refine (if_neg ?_).trans hcard
    rw [hcard]
    nofun
  · have gone := left (unclaimed_of_nothing howed hpair) _ (nothing howed hpair)
    exact ⟨gone.booths, gone.slots, gone.silent rfl, gone.arrears, gone.ledger⟩
  · obtain ⟨entries, new⟩ := serial n (hdebt.trans hn) (owes_of howed)
    have free := unclaimed_of_serial (u := b.owed) (pair := pair) (hdebt.trans hn) hfree
    have gone := left free _ rfl
    refine ⟨gone.booths, gone.slots, gone.arrears.trans entries, fun hnew hlen hroom => ?_⟩
    have gone := left free _ (new hnew hlen)
    obtain ⟨lost, reports⟩ := gone.reports hroom
    exact ⟨gone.ledger, lost, reports⟩
  · have gone := left (unclaimed_of_noSerial (hdebt.trans hn)) _ (noSerial (hdebt.trans hn) (owes_of_sum hsum))
    obtain ⟨lost, reports⟩ := gone.reports
      (Nat.le_trans (Nat.add_le_add_left (noSerialRecords_length p sum) _) hroom)
    exact ⟨gone.booths, gone.slots, gone.arrears, lost, gone.ledger, reports⟩

end Sys2Proof.Machine

/-! ## Direct transfers (R71) -/

namespace Sys2Proof.Machine

variable {s t : State} {p q r : Position} {x : Change} {b : Booth}

theorem positions_ascending : positions.Pairwise (· < ·) := by decide

/-- The lowest position that holds the serial is its holder (R71). -/
theorem holder_of_lowest {n : Nat} (hr : (s.booth r).holds n = true) (hlow : ∀ q, q < r → (s.booth q).holds n = false) :
    s.holder n = some r := by
  obtain ⟨before, after, split⟩ := List.append_of_mem (mem_positions r)
  refine List.find?_eq_some_iff_append.mpr ⟨hr, before, after, split, fun q hq => ?_⟩
  have ascending := positions_ascending
  rw [split, List.pairwise_append] at ascending
  rw [hlow q (ascending.2.2 q hq r List.mem_cons_self)]
  rfl

/-- The units and the pair that a booth takes in a direct transfer (R71). -/
structure Handover where
  units : Nat
  pair : Option Pair
  extra : Nat
  taken : Bool
  refused : Bool

/-- What a direct transfer of `u` units and a pair brings a booth (R71). -/
def Booth.handover (g : Booth) (u : Nat) (pair : Option Pair) : Handover where
  units := u
  pair := if decide (pair.isSome ∧ g.pendingRes.isNone) ∧ g.known.isNone then pair else g.pendingRes
  extra := match pair, g.pendingRes, g.known with
    | some x, none, some m => min x.k (m - x.new)
    | _, _, _ => 0
  taken := pair.isSome ∧ g.pendingRes.isNone
  refused := pair.isSome ∧ g.pendingRes.isSome

/-- The booth after a direct transfer, before credit is evaluated (R71). -/
def Booth.receive (g : Booth) (h : Handover) : Booth := { g with owed := g.owed + h.units + h.extra, pendingRes := h.pair }

/-- The change by a direct transfer from `q` to `r` that saturates no W (R71). -/
def Change.receive (x : Change) (q r : Position) (graceTime serial u : Nat) (pair : Option Pair) : Change :=
  let h := x.booth.handover u pair
  { x with
    booth := (x.booth.receive h).evaluated x.slot graceTime,
    records := x.records ++ [.opened q serial u pair, .collected r serial u (if h.taken then pairK pair else 0)] ++
      (if h.refused then [.unitsDropped r (pairK pair) .unresolved] else []),
    debited := x.debited + (if h.taken ∧ x.booth.known.isSome then pairK pair - h.extra else 0),
    dropped := x.dropped + (if h.refused then pairK pair else 0) }

theorem State.change_addOwed {n : Nat} (h : x.booth.owed + n ≤ 65535) :
    (s.change p x).addOwed p n = s.change p { x with booth := { x.booth with owed := x.booth.owed + n } } := by
  unfold State.addOwed
  rw [State.change_booth]
  dsimp only
  rw [if_pos h, State.onBooth_eq, State.change_booth, State.change_setBooth]

theorem State.change_transfer {serial u : Nat} {pair : Option Pair}
    (hfits : x.booth.owed + u + (x.booth.handover u pair).extra ≤ 65535) :
    (s.change r x).transfer q r serial u pair = s.change r (x.receive q r s.settings.graceTime serial u pair) := by
  have extra : (s.change r x).extraAt r pair = (x.booth.handover u pair).extra := by
    unfold State.extraAt
    rw [State.change_booth]
    rfl
  have fits : (s.change r x).saturates r (u + (s.change r x).extraAt r pair) = false := by
    rw [extra]
    unfold State.saturates
    rw [State.change_booth]
    exact decide_eq_false (by rw [← Nat.add_assoc]; exact Nat.not_lt.mpr hfits)
  have handed : (s.change r x).handedK r pair = if (x.booth.handover u pair).taken then pairK pair else 0 := by
    unfold State.handedK
    rw [State.change_booth]
    unfold Booth.handover
    cases pair <;> cases x.booth.pendingRes <;> simp [pairK]
  have units : x.booth.owed + u ≤ 65535 := Nat.le_trans (Nat.le_add_right ..) hfits
  unfold State.transfer
  dsimp only
  rw [fits, if_neg Bool.false_ne_true, handed, State.change_place, State.change_place, State.change_addOwed (by exact units)]
  unfold State.transferPair Change.receive Booth.handover Booth.receive
  unfold Booth.handover at hfits
  cases pair with
  | none =>
    dsimp only
    rw [State.change_evaluate]
    simp [List.append_assoc]
  | some y =>
    dsimp only
    rw [State.change_booth]
    dsimp only
    cases hres : x.booth.pendingRes with
    | some z =>
      dsimp only
      rw [State.change_dropUnits, State.change_evaluate]
      simp [pairK, List.append_assoc]
    | none =>
      cases hk : x.booth.known with
      | none =>
        dsimp only
        rw [State.onBooth_eq, State.change_booth, State.change_setBooth, State.change_evaluate]
        simp [pairK, List.append_assoc]
      | some m =>
        rw [hres, hk] at hfits
        dsimp only
        rw [State.change_addOwed (by exact hfits), State.change_addDebited, State.change_evaluate]
        simp [pairK, List.append_assoc, Pair.extra]

theorem sendOut_transfers {n u : Nat} {pair : Option Pair} (howed : ¬ (u = 0 ∧ pair = none)) (hr : s.holder n = some r)
    (p : Position) : s.sendOut p (some n) u pair = s.transfer p r n u pair := by
  unfold State.sendOut State.openArrears
  rw [if_neg howed]
  dsimp only
  rw [hr]

/-! ### A removal whose debt another booth takes (R9, R71) -/

/-- `s` once the card at `p` has left its two contexts and before its debt goes (R9). -/
def State.unburdened (s : State) (p : Position) : State :=
  (s.setBooth p (s.booth p).gone).setSlot p (s.slot p).emptied

theorem localAt_unburdened (s : State) (p : Position) : LocalAt p s (s.unburdened p) :=
  (localAt_setBooth s p _).trans (localAt_setSlot _ p _)

theorem unburdened_booth_self (s : State) (p : Position) : (s.unburdened p).booth p = (s.booth p).gone :=
  (State.setSlot_booth ..).trans (State.booth_setBooth_self ..)

/-- The holder of a serial, once the card at `p` has left. -/
theorem unburdened_holder {n : Nat} (hrp : r ≠ p) (hr : (s.booth r).holds n = true)
    (hlow : ∀ q, q ≠ p → q < r → (s.booth q).holds n = false) : (s.unburdened p).holder n = some r := by
  have others := (localAt_unburdened s p).booths
  refine holder_of_lowest (by rwa [others r hrp]) fun q hq => ?_
  by_cases hqp : q = p
  · rw [hqp, unburdened_booth_self]
    exact Booth.holds_of_notPresent (b := (s.booth p).gone) nofun n
  · rw [others q hqp]
    exact hlow q hqp hq

/-- A removal whose debt booth `r` takes (R9, R71). -/
theorem removeCard_transfers {n : Nat} (hdebt : (s.booth p).debtSerial = some n)
    (howed : ¬ ((s.booth p).owed = 0 ∧ outPair (s.slot p) (s.booth p) = none)) (hrp : r ≠ p)
    (hr : (s.booth r).holds n = true) (hlow : ∀ q, q ≠ p → q < r → (s.booth q).holds n = false)
    (hfits : (s.booth r).owed + (s.booth p).owed +
      ((s.booth r).handover (s.booth p).owed (outPair (s.slot p) (s.booth p))).extra ≤ 65535) :
    s.removeCard p none = ((s.unburdened p).change r (((s.unburdened p).rewrite (s.booth r) (s.slot r)).receive p r
      s.settings.graceTime n (s.booth p).owed (outPair (s.slot p) (s.booth p)))).afterRemoval p := by
  have untouched := localAt_unburdened s p
  have self := State.change_self (s.unburdened p) r
  rw [untouched.booths r hrp, untouched.slots r hrp] at self
  have sent := (sendOut_transfers howed (unburdened_holder hrp hr hlow) p).trans
    ((congrArg (fun t : State => t.transfer p r n (s.booth p).owed (outPair (s.slot p) (s.booth p))) self).trans
      (State.change_transfer (s := s.unburdened p) hfits))
  rw [removeCard_out, show (s.booth p).owedUnder none = some n from hdebt]
  exact congrArg (fun t : State => t.afterRemoval p) sent

/-- Settles O28. -/
theorem removalTransfersToTheBoothThatHoldsTheSerial : Obligations.RemovalTransfersToTheBoothThatHoldsTheSerial := by
  intro s p r n rest h b pair hdebt howed hrp hr hlow g extra refused taken hroom hfits
  have hexec := exec_removal h rest
  rw [removeCard_transfers (s := s.reach (replyIn p)) hdebt (owes_of howed) hrp hr hlow hfits, afterRemoval_eq] at hexec
  have untouched := localAt_unburdened (s.reach (replyIn p)) p
  have arrived := localAt_change ((s.reach (replyIn p)).unburdened p) r
    ((((s.reach (replyIn p)).unburdened p).rewrite g (s.slot r)).receive p r s.settings.graceTime n b.owed pair)
  obtain ⟨lost, reports⟩ := State.change_reports (s := (s.reach (replyIn p)).unburdened p) (p := r)
    (x := (((s.reach (replyIn p)).unburdened p).rewrite g (s.slot r)).receive p r s.settings.graceTime n b.owed pair) (by
      refine Nat.le_trans (Nat.le_of_eq ?_) hroom
      rw [Nat.add_assoc]
      refine congrArg (s.reports.length + ·) ((List.length_append ..).trans (congrArg (2 + ·) ?_))
      exact (apply_ite List.length ..).trans rfl)
  refine ⟨_, hexec, rfl, lost, ?_, ?_, ?_, fun q hqp hqr => ?_, ?_⟩
  · exact (State.change_ledger (s := (s.reach (replyIn p)).unburdened p) (p := r)).trans (by
      unfold Change.receive Booth.handover State.rewrite
      dsimp only
      rw [Nat.zero_add, Nat.zero_add]
      rfl)
  · exact (State.booth_setBooth_of_ne _ hrp _).trans (State.change_booth ..)
  · exact (State.slot_setSlot_of_ne _ hrp _).trans (State.change_slot ..)
  · refine (State.booth_setBooth_of_ne _ hqp _).trans ((arrived.booths q hqr).trans ?_)
    exact untouched.booths q hqp
  · exact reports.trans (List.append_assoc ..).symm

end Sys2Proof.Machine

/-! ## Identification and the collection of entries (R7, R40, R62, R80, R81) -/

namespace Sys2Proof.Machine

variable {s t : State} {p q : Position} {x : Change} {b : Booth}

/-! ### Units added to W, with what passes 65,535 (R40) -/

/-- The booth after `n` units have been added to W (R40). -/
def Booth.charged (b : Booth) (hold n : Nat) : Booth :=
  if (b.state = .call ∨ b.state = .grace) ∧ 65535 < b.owed + n then
    { b with owed := min 65535 (b.owed + n), state := .clearing, grace := 0, timer := some (.assert hold) }
  else { b with owed := min 65535 (b.owed + n) }

/-- The units that pass 65,535 where `n` are added to W (R40). -/
def Booth.overflow (b : Booth) (n : Nat) : Nat := b.owed + n - 65535

/-- The records of `n` units added to W (R40). -/
def Booth.overflowRecords (b : Booth) (p : Position) (n : Nat) : List Report :=
  if 0 < b.overflow n then .unitsDropped p (b.overflow n) .saturated :: b.saturationRecords p else []

theorem Change.charge_eq (x : Change) (p : Position) (hold n : Nat) : x.charge p hold n = { x with
    booth := x.booth.charged hold n, records := x.records ++ x.booth.overflowRecords p n,
    dropped := x.dropped + x.booth.overflow n } := by
  unfold Change.charge Booth.charged Booth.overflowRecords Booth.saturated Booth.overflow
  by_cases h : x.booth.owed + n ≤ 65535
  · rw [if_pos h, if_neg (fun full => Nat.not_le.mpr full.2 h), Nat.sub_eq_zero_of_le h, Nat.min_eq_right h,
      if_neg (Nat.lt_irrefl 0), List.append_nil]
    rfl
  · have full := Nat.lt_of_not_le h
    rw [if_neg h, Nat.min_eq_left (Nat.le_of_lt full), if_pos (Nat.sub_pos_of_lt full)]
    simp only [full, and_true]

theorem Booth.charged_owed (b : Booth) (hold n : Nat) : (b.charged hold n).owed = min 65535 (b.owed + n) := by
  unfold Booth.charged
  split <;> rfl

/-- Two additions leave W and the state as one of their sum does. -/
theorem Booth.charged_charged (b : Booth) (hold m n : Nat) :
    (b.charged hold m).charged hold n = b.charged hold (m + n) := by
  have sum : min 65535 (min 65535 (b.owed + m) + n) = min 65535 (b.owed + (m + n)) := by omega
  by_cases hm : (b.state = .call ∨ b.state = .grace) ∧ 65535 < b.owed + m
  · have hmn : (b.state = .call ∨ b.state = .grace) ∧ 65535 < b.owed + (m + n) := ⟨hm.1, by omega⟩
    unfold Booth.charged
    rw [if_pos hm, if_pos hmn, if_neg (by simp), ← sum]
  · unfold Booth.charged
    rw [if_neg hm]
    dsimp only
    rw [sum]
    refine if_congr (and_congr_right fun calls => ?_) rfl rfl
    have fits : ¬ 65535 < b.owed + m := fun full => hm ⟨calls, full⟩
    omega

theorem Booth.overflow_charged (b : Booth) (hold m n : Nat) :
    (b.charged hold m).overflow n = b.overflow (m + n) - b.overflow m := by
  unfold Booth.overflow
  rw [Booth.charged_owed]
  omega

theorem Booth.overflow_add (b : Booth) (m n : Nat) : b.overflow m + (b.overflow (m + n) - b.overflow m) = b.overflow (m + n) := by
  unfold Booth.overflow
  omega

/-- CLEAR-DOWN comes at the first of two additions that saturates (R40). -/
theorem Booth.saturationRecords_charged (b : Booth) (p : Position) (hold m : Nat) :
    (b.charged hold m).saturationRecords p = if b.overflow m = 0 then b.saturationRecords p else [] := by
  unfold Booth.charged Booth.saturationRecords
  by_cases hm : b.overflow m = 0
  · have fits : ¬ ((b.state = .call ∨ b.state = .grace) ∧ 65535 < b.owed + m) := fun full =>
      Nat.ne_of_gt (Nat.sub_pos_of_lt full.2) hm
    rw [if_pos hm, if_neg fits]
  · have full : 65535 < b.owed + m := Nat.lt_of_sub_pos (Nat.pos_of_ne_zero hm)
    rw [if_neg hm]
    split
    · rfl
    next h => exact if_neg fun calls => h ⟨calls, full⟩

theorem Booth.evaluated_of_other {c : Intercept} (hcall : b.state ≠ .call) (hgrace : b.state ≠ .grace) (graceTime : Nat) :
    b.evaluated c graceTime = b := by
  unfold Booth.evaluated
  split
  · rfl
  · dsimp only
    rw [if_neg fun h => hcall h.1, if_neg fun h => hgrace h.1]

theorem Booth.charged_evaluated (b : Booth) (c : Intercept) (hold graceTime n : Nat) :
    (b.charged hold n).evaluated c graceTime =
      if (b.state = .call ∨ b.state = .grace) ∧ 65535 < b.owed + n then
        { b with owed := min 65535 (b.owed + n), state := .clearing, grace := 0, timer := some (.assert hold) }
      else ({ b with owed := min 65535 (b.owed + n) } : Booth).evaluated c graceTime := by
  unfold Booth.charged
  split
  · exact Booth.evaluated_of_other (b := { b with
      owed := min 65535 (b.owed + n), state := .clearing, grace := 0, timer := some (.assert hold) }) nofun nofun graceTime
  · rfl

/-! ### The pair of a collected entry (R62, R81) -/

/-- What the pair of a collected entry comes to: settled at once, refused for the pending resolution already there, or
kept as the pending resolution (R62, R81). -/
structure Taking where
  settled : Option Pair
  refused : Option Pair
  kept : Option Pair
  extra : Nat

def Booth.takes (b : Booth) (pair : Option Pair) : Taking :=
  let settled := if b.pendingRes = none ∧ b.known ≠ none then pair else none
  { settled := settled
    refused := if b.pendingRes = none then none else pair
    kept := if b.pendingRes = none ∧ b.known = none then pair else b.pendingRes
    extra := match settled with
      | some q => min q.k (b.known.getD 0 - q.new)
      | none => 0 }

theorem Booth.takes_none (b : Booth) : b.takes none = ⟨none, none, b.pendingRes, 0⟩ := by
  unfold Booth.takes
  cases b.pendingRes <;> cases b.known <;> rfl

theorem Booth.takes_of_held {z : Pair} (h : b.pendingRes = some z) (y : Pair) :
    b.takes (some y) = ⟨none, some y, some z, 0⟩ := by
  unfold Booth.takes
  rw [h]
  rfl

theorem Booth.takes_of_unknown (h : b.pendingRes = none) (hk : b.known = none) (y : Pair) :
    b.takes (some y) = ⟨none, none, some y, 0⟩ := by
  unfold Booth.takes
  rw [h, hk]
  rfl

theorem Booth.takes_of_known {m : Nat} (h : b.pendingRes = none) (hk : b.known = some m) (y : Pair) :
    b.takes (some y) = ⟨some y, none, none, y.extra m⟩ := by
  unfold Booth.takes
  rw [h, hk]
  rfl

theorem settlePending_of_unknown (h : (s.booth p).known = none) : s.settlePending p = s := by
  unfold State.settlePending
  rw [h]
  split
  · exact absurd ‹none = some _› nofun
  · rfl

/-- A pair, where there is one, reaches a booth (R62, R81). -/
def State.takeEntryPair (s : State) (p : Position) (pair : Option Pair) : State :=
  match pair with
  | some q => s.takePair p q
  | none => s

/-- The records of a pair refused. -/
def refusedRecords (p : Position) (refused : Option Pair) : List Report :=
  refused.toList.map fun q => .unitsDropped p q.k .unresolved

/-- Nothing added to a W in range changes nothing. -/
theorem Booth.charged_zero (h : b.owed ≤ 65535) (hold : Nat) : b.charged hold 0 = b := by
  unfold Booth.charged
  rw [if_neg (fun full => Nat.not_lt.mpr h full.2), Nat.add_zero, Nat.min_eq_right h]

theorem Booth.overflow_zero (h : b.owed ≤ 65535) : b.overflow 0 = 0 := Nat.sub_eq_zero_of_le h

theorem Booth.overflowRecords_zero (h : b.owed ≤ 65535) (p : Position) : b.overflowRecords p 0 = [] := by
  unfold Booth.overflowRecords
  rw [Booth.overflow_zero h, if_neg (Nat.lt_irrefl 0)]

/-- The change by a pair that reaches a booth whose W is in range, credit then being evaluated (R12, R14, R62, R81). -/
def Change.take (x : Change) (p : Position) (hold graceTime : Nat) (pair : Option Pair) : Change :=
  let y := x.booth.takes pair
  { x with
    booth := (({ x.booth with pendingRes := y.kept } : Booth).charged hold y.extra).evaluated x.slot graceTime,
    records := x.records ++ refusedRecords p y.refused ++ x.booth.overflowRecords p y.extra,
    debited := x.debited + (pairK y.settled - y.extra),
    dropped := x.dropped + pairK y.refused + x.booth.overflow y.extra }

theorem State.change_takeEntryPair (pair : Option Pair) (howed : x.booth.owed ≤ 65535) :
    ((s.change p x).takeEntryPair p pair).evaluate p =
      s.change p (x.take p s.settings.clearDownHold s.settings.graceTime pair) := by
  have within : x.booth.overflow 0 = 0 := Booth.overflow_zero howed
  have quiet (b : Booth) (hb : b.owed = x.booth.owed) : b.charged s.settings.clearDownHold 0 = b :=
    Booth.charged_zero (hb ▸ howed) _
  unfold State.takeEntryPair Change.take
  cases pair with
  | none =>
    rw [State.change_evaluate, Booth.takes_none]
    simp [refusedRecords, pairK, Booth.overflowRecords_zero howed, within, quiet]
  | some y =>
    dsimp only
    unfold State.takePair
    rw [State.change_booth]
    cases hres : x.booth.pendingRes with
    | some z =>
      dsimp only
      rw [State.change_dropUnits, State.change_evaluate, Booth.takes_of_held hres]
      simp [refusedRecords, pairK, Booth.overflowRecords_zero howed, within, quiet, ← hres]
    | none =>
      dsimp only
      rw [State.onBooth_eq, State.change_booth, State.change_setBooth]
      obtain ⟨known, hknown⟩ : ∃ known, x.booth.known = known := ⟨_, rfl⟩
      cases known with
      | none =>
        rw [settlePending_of_unknown (by rw [State.change_booth]; exact hknown), State.change_evaluate,
          Booth.takes_of_unknown hres hknown]
        simp [refusedRecords, pairK, Booth.overflowRecords_zero howed, within, quiet]
      | some m =>
        rw [State.change_settlePending (x := { x with booth := { x.booth with pendingRes := some y } }) rfl hknown, State.change_charge, Change.charge_eq,
          State.change_evaluate, State.change_evaluate, Booth.evaluated_evaluated, Booth.takes_of_known hres hknown]
        simp [refusedRecords, pairK]
        rfl

/-! ### Entries collected (R80, R81) -/

/-- The change by the collection of `e`, credit then being evaluated (R12, R14, R40, R80, R81). -/
def Change.collect (x : Change) (p : Position) (hold graceTime n : Nat) (e : ArrearsEntry) : Change :=
  let y := x.booth.takes e.pair
  { x with
    booth := (({ x.booth with pendingRes := y.kept } : Booth).charged hold (e.owed + y.extra)).evaluated x.slot graceTime,
    entries := withoutEntry x.entries n,
    records := x.records ++ .collected p n e.owed (pairK e.pair) :: (x.booth.overflowRecords p e.owed ++
      refusedRecords p y.refused ++ (x.booth.charged hold e.owed).overflowRecords p y.extra),
    debited := x.debited + (pairK y.settled - y.extra),
    dropped := x.dropped + x.booth.overflow (e.owed + y.extra) + pairK y.refused }

theorem Booth.charged_takes (b : Booth) (hold n : Nat) (pair : Option Pair) : (b.charged hold n).takes pair = b.takes pair := by
  unfold Booth.charged
  split <;> rfl

theorem Booth.charged_keeps (b : Booth) (hold n : Nat) (pair : Option Pair) :
    ({ b.charged hold n with pendingRes := pair } : Booth) = ({ b with pendingRes := pair } : Booth).charged hold n := by
  unfold Booth.charged
  dsimp only
  split <;> rfl

/-- The steps of a collection one after the other (R81). -/
theorem Change.charge_take (x : Change) (p : Position) (hold graceTime n : Nat) (e : ArrearsEntry) :
    (({ x with entries := withoutEntry x.entries n,
               records := x.records ++ [.collected p n e.owed (pairK e.pair)] } : Change).charge p hold e.owed).take p hold
      graceTime e.pair = x.collect p hold graceTime n e := by
  have excess (extra k : Nat) : x.dropped + x.booth.overflow e.owed + k +
      (x.booth.overflow (e.owed + extra) - x.booth.overflow e.owed) = x.dropped + x.booth.overflow (e.owed + extra) + k := by
    rw [← Booth.overflow_add x.booth e.owed extra]
    omega
  have order (a b c d : List Report) (r : Report) : a ++ [r] ++ b ++ c ++ d = a ++ r :: (b ++ c ++ d) := by
    simp only [List.append_assoc, List.cons_append, List.nil_append]
  rw [Change.charge_eq]
  unfold Change.take Change.collect
  dsimp only
  rw [Booth.charged_takes, Booth.charged_keeps, Booth.charged_charged, Booth.overflow_charged, excess, order]

theorem State.change_collect {n : Nat} {e : ArrearsEntry} (he : findEntry x.entries n = some e) :
    ((s.change p x).collect p n).evaluate p =
      s.change p (x.collect p s.settings.clearDownHold s.settings.graceTime n e) := by
  unfold State.collect
  rw [State.change_arrears, he]
  dsimp only
  rw [State.change_entries, State.change_place, State.change_charge]
  have within : (({ x with
      entries := withoutEntry x.entries n,
      records := x.records ++ [.collected p n e.owed (pairK e.pair)] } : Change).charge p s.settings.clearDownHold
        e.owed).booth.owed ≤ 65535 := by
    rw [Change.charge_eq]
    exact (Booth.charged_owed ..).trans_le (Nat.min_le_left ..)
  exact (State.change_takeEntryPair e.pair within).trans (congrArg (s.change p) (Change.charge_take ..))

/-! ### Identification (R7) -/

/-- The booth whose last serial has followed its card (R7). -/
def Booth.named (b : Booth) (n : Nat) : Booth := { b with lastSerial := if b.callUp then some n else b.lastSerial }

/-- The change by an identification whose expected serial has been checked (R7, R80). -/
def Change.identify (x : Change) (p : Position) (hold graceTime n : Nat) : Change :=
  match findEntry x.entries n with
  | none => { x with booth := (x.booth.named n).evaluated x.slot graceTime }
  | some e => ({ x with booth := x.booth.named n } : Change).collect p hold graceTime n e

theorem State.change_identified {n : Nat} (hserial : x.booth.serial = some n) :
    (s.change p x).identified p = s.change p (x.identify p s.settings.clearDownHold s.settings.graceTime n) := by
  unfold State.identified Change.identify
  rw [State.change_booth, hserial]
  dsimp only
  rw [State.onBooth_eq, State.change_booth, State.change_setBooth]
  cases he : findEntry x.entries n with
  | none =>
    unfold State.collect
    rw [State.change_arrears, he]
    dsimp only
    rw [State.change_evaluate]
    rfl
  | some e => exact State.change_collect (x := { x with booth := x.booth.named n }) he

/-- A half that was not known (R2, R7). -/
theorem State.change_readHalf_new {high : Bool} {v : Nat}
    (hself : (if high then x.booth.serialHigh else x.booth.serialLow) = none) :
    (s.change p x).readHalf p high v = (s.change p { x with
      booth := x.booth.withHalf high v, slot := x.slot.withoutRead (if high then 0 else 1) }).identify p := by
  unfold State.readHalf
  rw [State.change_booth, hself]
  dsimp only
  rw [State.onBooth_eq, State.change_booth, State.change_setBooth, dropHeldRead_eq, State.change_slot,
    State.change_setSlot]

/-- The card is identified as the one expected, or none was (R7). -/
theorem State.change_identify_expected {n : Nat} (hserial : x.booth.serial = some n)
    (hexpected : x.booth.expected = none ∨ x.booth.expected = some n) :
    (s.change p x).identify p = s.change p (({ x with booth := { x.booth with expected := none } } : Change).identify p
      s.settings.clearDownHold s.settings.graceTime n) := by
  have identified := State.change_identified (s := s) (p := p)
    (x := { x with booth := { x.booth with expected := none } }) hserial
  unfold State.identify
  rw [State.change_booth]
  dsimp only
  rw [hserial]
  cases hexpected with
  | inl hnone =>
    have same : ({ x.booth with expected := none } : Booth) = x.booth := by rw [← hnone]
    rw [same] at identified ⊢
    dsimp only
    rw [hnone]
    exact identified
  | inr hsome =>
    dsimp only
    rw [hsome]
    dsimp only
    rw [if_pos rfl, State.onBooth_eq, State.change_booth, State.change_setBooth]
    exact identified

/-- The serial of a card differs from the one expected: a card change, the new card then being identified (R7, R8). -/
theorem State.change_identify_unexpected {n e : Nat} (hserial : x.booth.serial = some n)
    (hexpected : x.booth.expected = some e) (hne : e ≠ n) (hfound : x.booth.foundUp = false)
    (hstate : x.booth.state ≠ .vacant)
    (h : s.Unclaimed p (some e) x.booth.owed (outPair x.slot x.booth)) :
    (s.change p x).identify p = s.change p ((({ x with
      booth := { x.booth.swapped s.settings.graceTime with
        serialHigh := x.booth.serialHigh, serialLow := x.booth.serialLow },
      slot := x.slot.emptied } : Change).depart p (some e) x.booth.owed (outPair x.slot x.booth)).identify p
        s.settings.clearDownHold s.settings.graceTime n) := by
  have changed := cardChange_eq (s := s.change p x) (p := p) (by rwa [State.change_booth]) (by rwa [State.change_booth])
    (some e)
  rw [State.change_booth, State.change_slot, State.change_settings, State.change_cardChange (some e) _ h] at changed
  unfold State.identify
  rw [State.change_booth]
  dsimp only
  rw [hserial]
  dsimp only
  rw [hexpected]
  dsimp only
  rw [if_neg hne, changed, State.onBooth_eq, State.change_booth, State.change_setBooth]
  exact State.change_identified hserial

end Sys2Proof.Machine

/-! ## Identification as a command (R7, R8, R80, R81) -/

namespace Sys2Proof.Machine

variable {s t : State} {p q : Position} {x : Change} {b : Booth}

/-- The DATA of a half that was not known, its identification making the change `x`. -/
theorem exec_newHalf (h : s.cardHere p) (hidle : (s.slot p).inFlight = none) {high : Bool} {v : Word} (last : Byte)
    (hself : (if high then (s.booth p).serialHigh else (s.booth p).serialLow) = none)
    (hx : ((s.reach (replyIn p)).change p ((s.reach (replyIn p)).rewrite ((s.booth p).withHalf high v.toNat)
      ((s.slot p).withoutRead (if high then 0 else 1)))).identify p = (s.reach (replyIn p)).change p x)
    (hslot : x.slot.afterData (ownSlot (s.slot p).record) (if high then 0 else 1) = x.slot) :
    exec (.data p (if high then 0 else 1) v last) s = .next (s.repliedWith p x (halfShown s p high v last)) := by
  have read := (congrArg (fun t : State => t.readHalf p high v.toNat) (State.change_self (s.reach (replyIn p)) p)).trans
    (State.change_readHalf_new (s := s.reach (replyIn p)) (p := p)
      (x := (s.reach (replyIn p)).rewrite (s.booth p) (s.slot p)) hself)
  have replied := exec_data h hidle last
    ((wordStep_half (s := s.reach (replyIn p)) h.2.1 _ high v).trans (read.trans hx))
  rw [hslot] at replied
  exact replied

/-- The serial of a card whose halves have both become known (R178). -/
def wholeSerial (high : Bool) (h : Nat) (v : Word) : Nat :=
  if high then v.toNat * 65536 + h else h * 65536 + v.toNat

/-- The booth with both halves known. -/
def Booth.whole (b : Booth) (high : Bool) (h : Nat) (v : Word) : Booth :=
  { b with serialHigh := some (if high then v.toNat else h), serialLow := some (if high then h else v.toNat) }

/-- The other half is known, and this one is not. -/
def Booth.awaits (b : Booth) (high : Bool) (h : Nat) : Prop :=
  if high then b.serialHigh = none ∧ b.serialLow = some h else b.serialHigh = some h ∧ b.serialLow = none

theorem Booth.awaits_self {high : Bool} {h : Nat} (hb : b.awaits high h) :
    (if high then b.serialHigh else b.serialLow) = none := by
  cases high with
  | true => exact hb.1
  | false => exact hb.2

theorem Booth.withHalf_of_awaits {high : Bool} {h : Nat} (hb : b.awaits high h) (v : Word) :
    b.withHalf high v.toNat = b.whole high h v := by
  cases high with
  | true =>
    obtain ⟨-, hlow⟩ := hb
    simp [Booth.withHalf, Booth.whole, ← hlow]
  | false =>
    obtain ⟨hhigh, -⟩ := hb
    simp [Booth.withHalf, Booth.whole, ← hhigh]

theorem Booth.whole_serial (b : Booth) (high : Bool) (h : Nat) (v : Word) :
    (b.whole high h v).serial = some (wholeSerial high h v) := by
  cases high <;> rfl

theorem Change.identify_of_none {n : Nat} (h : findEntry x.entries n = none) (hold graceTime : Nat) :
    x.identify p hold graceTime n = { x with booth := (x.booth.named n).evaluated x.slot graceTime } := by
  unfold Change.identify
  rw [h]

theorem Change.identify_of_some {n : Nat} {e : ArrearsEntry} (h : findEntry x.entries n = some e) (hold graceTime : Nat) :
    x.identify p hold graceTime n = ({ x with booth := x.booth.named n } : Change).collect p hold graceTime n e := by
  unfold Change.identify
  rw [h]

theorem repliedWith_reports {u : UpReply} (h : s.reports.length + x.records.length ≤ 32) :
    (s.repliedWith p x u).lost = s.lost ∧ (s.repliedWith p x u).reports = s.reports ++ x.records :=
  State.change_reports (p := p) (x := { x with slot := { x.slot with record := none } }) h

/-- Units debited and dropped by a change that debited and dropped none before. -/
theorem Ledger.of_zero (l : Ledger) (debited dropped refused : Nat) :
    ({ accrued := l.accrued + 0, debited := l.debited + (0 + debited), dropped := l.dropped + (0 + dropped + refused) } :
      Ledger) = { l with debited := l.debited + debited, dropped := l.dropped + dropped + refused } := by
  rw [Nat.zero_add, Nat.zero_add, Nat.add_assoc l.dropped]
  rfl

/-- The records of the second of two additions (R40). -/
theorem Booth.overflowRecords_charged (b : Booth) (p : Position) (hold m n : Nat) :
    (b.charged hold m).overflowRecords p n = if 0 < b.overflow (m + n) - b.overflow m then
      .unitsDropped p (b.overflow (m + n) - b.overflow m) .saturated ::
        (if b.overflow m = 0 then b.saturationRecords p else []) else [] := by
  unfold Booth.overflowRecords
  rw [Booth.overflow_charged, Booth.saturationRecords_charged]

theorem Intercept.afterData_emptied (c : Intercept) (own : Bool) (a : WordAddr) :
    c.emptied.afterData own a = c.emptied := by
  unfold Intercept.afterData
  split <;> rfl

theorem Change.identify_slot (x : Change) (p : Position) (hold graceTime n : Nat) :
    (x.identify p hold graceTime n).slot = x.slot := by
  unfold Change.identify
  split <;> rfl

/-- An entry collected by a card of which nothing but the serial is known (R80, R81). -/
theorem Change.collect_fresh {e : ArrearsEntry} (howed : x.booth.owed = 0) (hres : x.booth.pendingRes = none)
    (hknown : x.booth.known = none) (he : e.owed ≤ 65535) (hold graceTime n : Nat) :
    x.collect p hold graceTime n e = { x with
      booth := { x.booth with owed := e.owed, pendingRes := e.pair }, entries := withoutEntry x.entries n,
      records := x.records ++ [.collected p n e.owed (pairK e.pair)] } := by
  have takes : x.booth.takes e.pair = ⟨none, none, e.pair, 0⟩ := by
    cases hpair : e.pair with
    | none => rw [Booth.takes_none, hres]
    | some y => exact Booth.takes_of_unknown hres hknown y
  have fits : x.booth.overflow e.owed = 0 := Nat.sub_eq_zero_of_le (by rw [howed, Nat.zero_add]; exact he)
  have later : (x.booth.charged hold e.owed).overflow 0 = 0 := by
    rw [Booth.overflow_charged, Nat.add_zero, fits]
  have charged : ({ x.booth with pendingRes := e.pair } : Booth).charged hold e.owed =
      { x.booth with owed := e.owed, pendingRes := e.pair } := by
    unfold Booth.charged
    dsimp only
    rw [howed, Nat.zero_add, if_neg fun full => Nat.not_lt.mpr he full.2, Nat.min_eq_right he]
  unfold Change.collect Booth.overflowRecords
  dsimp only
  rw [takes]
  dsimp only
  rw [later, Nat.add_zero, fits, charged, Booth.evaluated_of_unknown (b := { x.booth with
    owed := e.owed, pendingRes := e.pair }) hknown, if_neg (Nat.lt_irrefl 0)]
  rfl

/-- The identification of a card of which nothing but the serial is known (R7, R80). -/
theorem Change.identify_fresh {n : Nat} (howed : x.booth.owed = 0) (hres : x.booth.pendingRes = none)
    (hknown : x.booth.known = none) (hunits : ∀ e, findEntry x.entries n = some e → e.owed ≤ 65535) (hold graceTime : Nat) :
    x.identify p hold graceTime n = { x with
      booth := { x.booth.named n with
        owed := ((findEntry x.entries n).map ArrearsEntry.owed).getD 0,
        pendingRes := (findEntry x.entries n).bind ArrearsEntry.pair },
      entries := withoutEntry x.entries n,
      records := x.records ++ (findEntry x.entries n).toList.map fun e => .collected p n e.owed (pairK e.pair) } := by
  cases he : findEntry x.entries n with
  | none =>
    have whole : withoutEntry x.entries n = x.entries := by
      refine List.filter_eq_self.mpr fun e hmem => ?_
      simpa using List.find?_eq_none.mp he e hmem
    rw [Change.identify_of_none he, Booth.evaluated_of_unknown (b := x.booth.named n) hknown, whole]
    simp [Booth.named, ← howed, ← hres]
  | some e =>
    rw [Change.identify_of_some he]
    exact Change.collect_fresh (x := { x with booth := x.booth.named n }) howed hres hknown (hunits e he) ..

/-- A card of which nothing but the serial is known has taken the place of another (R8). -/
theorem Booth.swapped_named (hstate : b.state ≠ .vacant) (hpresent : b.present = .yes) (graceTime : Nat) :
    ({ b.swapped graceTime with serialHigh := b.serialHigh, serialLow := b.serialLow } : Booth) = { b with
      expected := none, known := none, band := none, owed := 0, pendingRes := none,
      mode := if b.state = .card then b.pendingMode.getD b.mode else b.mode,
      pendingMode := if b.state = .card then none else b.pendingMode,
      resumed := if b.state = .card ∧ b.mode = .free ∧ b.pendingMode = some .charged then .no else b.resumed,
      state := if b.state = .call then .grace else b.state,
      grace := if b.state = .call then graceTime * 10 else b.grace } := by
  rw [Booth.swapped_eq hstate, hpresent]

/-- Settles O21. -/
theorem identificationCollectsTheEntry : Obligations.IdentificationCollectsTheEntry := by
  intro s p high h v last hhere hidle b c a n hhalf whole c' collected
  have half := Booth.withHalf_of_awaits (b := b) hhalf v
  have serial := b.whole_serial high h v
  have exec_eq := fun x => exec_newHalf (x := x) (v := v) hhere hidle last (Booth.awaits_self (b := b) hhalf)
  rw [half] at exec_eq
  refine ⟨fun hexpected => ?_, fun e hexpected hne hfound hstate hfree => ?_⟩
  · have identified := State.change_identify_expected (s := s.reach (replyIn p)) (p := p)
      (x := (s.reach (replyIn p)).rewrite (b.whole high h v) (c.withoutRead a)) serial hexpected
    have done := exec_eq _ identified (by rw [Change.identify_slot]; exact Intercept.withoutRead_afterData ..)
    refine ⟨fun hnew => ?_, fun e he => ?_⟩
    · have none : findEntry s.arrears n = none := List.find?_eq_none.mpr fun e he => by simpa using hnew e he
      rw [Change.identify_of_none none] at done
      exact ⟨_, _, done, repliedAt_repliedWith .., repliedWith_booth .., repliedWith_slot .., ⟨rfl, rfl⟩, rfl, rfl⟩
    · intro settled refused extra sum first second taken calls dropped cleared records
      have he : findEntry s.arrears n = some e := he
      rw [Change.identify_of_some he] at done
      have done : exec (.data p a v last) s = .next (s.repliedWith p ((s.rewrite whole (c.withoutRead a)).collect p
        s.settings.clearDownHold s.settings.graceTime n e) (halfShown s p high v last)) := done
      have units : whole.overflow (e.owed + extra) = sum - 65535 := congrArg (· - 65535) (Nat.add_assoc ..).symm
      refine ⟨_, _, done, repliedAt_repliedWith .., (repliedWith_booth ..).trans ?_, repliedWith_slot .., rfl, ?_,
        fun hroom => ?_⟩
      · refine (Booth.charged_evaluated ..).trans ?_
        rw [← Nat.add_assoc]
        rfl
      · rw [← units]
        exact (repliedWith_ledger ..).trans (Ledger.of_zero ..)
      · have order : ((s.rewrite whole (c.withoutRead a)).collect p s.settings.clearDownHold s.settings.graceTime n
            e).records = records := by
          have later : (whole.charged s.settings.clearDownHold e.owed).overflowRecords p extra =
              if 0 < second then dropped .saturated second :: (if first = 0 then cleared else []) else [] := by
            rw [Booth.overflowRecords_charged, units]
            rfl
          rw [show records = collected e :: (whole.overflowRecords p e.owed ++ refusedRecords p refused ++
            (whole.charged s.settings.clearDownHold e.owed).overflowRecords p extra) by rw [later]; rfl]
          rfl
        rw [← order] at hroom ⊢
        exact repliedWith_reports hroom
  · intro pair nothing list found hunits
    have identified := State.change_identify_unexpected (s := s.reach (replyIn p)) (p := p)
      (x := (s.reach (replyIn p)).rewrite (b.whole high h v) (c.withoutRead a)) serial hexpected hne hfound hstate
      (unclaimed_of_serial rfl hfree)
    have done := exec_eq _ identified (by rw [Change.identify_slot]; exact Intercept.afterData_emptied ..)
    have fresh := Booth.swapped_named (b := b.whole high h v) hstate hhere.2.2 s.settings.graceTime
    have done : exec (.data p a v last) s = .next (s.repliedWith p (((s.rewrite
      { (b.whole high h v).swapped s.settings.graceTime with
        serialHigh := (b.whole high h v).serialHigh, serialLow := (b.whole high h v).serialLow }
      c.emptied).depart p (some e) b.owed pair).identify p s.settings.clearDownHold s.settings.graceTime n)
        (halfShown s p high v last)) := done
    obtain ⟨none, opens, -⟩ := departure_cases s.arrears p (some e) b.owed pair
    have entries : (departure s.arrears p (some e) b.owed pair).entries = list := by
      by_cases hnothing : b.owed = 0 ∧ pair = Option.none
      · rw [none hnothing.1 hnothing.2]
        exact (if_pos (decide_eq_true hnothing)).symm
      · rw [(opens e rfl hnothing).1]
        exact (if_neg (fun h => hnothing (of_decide_eq_true h))).symm
    have found_eq : findEntry (departure s.arrears p (some e) b.owed pair).entries n = found :=
      congrArg (findEntry · n) entries
    rw [fresh, Change.identify_fresh rfl rfl rfl (fun y hy => hunits y (found_eq ▸ hy))] at done
    refine ⟨_, _, done, rfl, (repliedAt_repliedWith ..).tables, (repliedAt_repliedWith ..).clocks,
      (repliedAt_repliedWith ..).booths, (repliedAt_repliedWith ..).slots, repliedWith_slot .., ?_, ?_,
      fun hnew hlen hroom => ?_⟩
    · refine (repliedWith_booth ..).trans ?_
      rw [← found_eq]
      rfl
    · exact congrArg (withoutEntry · n) entries
    · have departed : departure s.arrears p (some e) b.owed pair =
          ⟨list, if nothing then [] else [.opened p e b.owed pair], 0⟩ := by
        rw [← entries]
        by_cases hnothing : b.owed = 0 ∧ pair = Option.none
        · rw [if_pos (show nothing = true from decide_eq_true hnothing), none hnothing.1 hnothing.2]
        · rw [if_neg (show ¬ nothing = true from fun h => hnothing (of_decide_eq_true h)), (opens e rfl hnothing).2 hnew hlen]
      have short : ((if nothing then [] else [Report.opened p e b.owed pair]) ++ found.toList.map collected).length ≤ 2 := by
        cases nothing <;> cases found <;> simp
      refine ⟨(repliedWith_ledger ..).trans ?_, ?_⟩
      · exact (congrArg (fun d : Departure => ({ s.ledger with dropped := s.ledger.dropped + (0 + d.dropped) } : Ledger))
          departed).trans rfl
      · have placed (y : Change) (hy : y.records = (if nothing then [] else [Report.opened p e b.owed pair]) ++
            found.toList.map collected) : (s.repliedWith p y (halfShown s p high v last)).lost = s.lost ∧
              (s.repliedWith p y (halfShown s p high v last)).reports =
                s.reports ++ (if nothing then [] else [Report.opened p e b.owed pair]) ++ found.toList.map collected := by
          rw [List.append_assoc, ← hy]
          refine repliedWith_reports ?_
          rw [hy]
          exact Nat.le_trans (Nat.add_le_add_left short _) hroom
        refine placed _ ?_
        exact congrArg₂ (fun d o => d ++ o.toList.map collected) (congrArg Departure.records departed) found_eq

end Sys2Proof.Machine

/-! ## A tick at every booth (R36 to R40) -/

namespace Sys2Proof.Machine

variable {s t : State} {p q : Position} {x : Change} {b : Booth}

/-! ### The steps of a tick at one booth -/

/-- The new units of a tick at the rate `r` (R38). -/
def Booth.newUnits (b : Booth) (r : Nat) : Nat := (b.fraction + r) / 1024

/-- The booth once the quanta of a tick at the rate `r` have been counted, before its new units join W (R37, R38). -/
def Booth.counted (b : Booth) (r : Nat) : Booth :=
  { b with rate := some r, fraction := (b.fraction + r) % 1024, callUnits := min 65535 (b.callUnits + b.newUnits r) }

/-- The change by the accrual of a tick at the rate `r` (R36 to R40). -/
def Change.accrue (x : Change) (p : Position) (hold graceTime r : Nat) : Change :=
  if x.booth.newUnits r = 0 then { x with booth := x.booth.counted r }
  else { x with
    booth := ((x.booth.counted r).charged hold (x.booth.newUnits r)).evaluated x.slot graceTime,
    records := x.records ++ (x.booth.counted r).overflowRecords p (x.booth.newUnits r),
    accrued := x.accrued + x.booth.newUnits r,
    dropped := x.dropped + (x.booth.counted r).overflow (x.booth.newUnits r) }

/-- The change by the move of a grace countdown (R13). -/
def Change.countGrace (x : Change) (p : Position) (hold : Nat) : Change :=
  if x.booth.grace ≤ 1 then
    { x with booth := { x.booth with state := .clearing, grace := 0, timer := some (.assert hold) },
             records := x.records ++ [.clearDown p .graceExpired] }
  else { x with booth := { x.booth with grace := x.booth.grace - 1 } }

/-- The booth after the move of its clear-down timer (R16). -/
def Booth.timed (b : Booth) (hold : Nat) : Booth :=
  if b.clearingDown then { b with timer := b.timer.map (ClearDown.move hold) } else b

theorem State.change_accrue (r : Nat) (hr : (s.change p x).reselect p r = t.reselect p r) :
    (s.change p x).accrue p r =
      s.change p (x.accrue p s.settings.clearDownHold s.settings.graceTime (t.reselect p r)) := by
  unfold State.accrue Change.accrue
  dsimp only
  rw [hr, State.change_booth, State.onBooth_eq, State.change_booth, State.change_setBooth, State.change_addAccrued]
  by_cases h : x.booth.newUnits (t.reselect p r) = 0
  · rw [if_pos h]
    refine (if_pos h).trans ?_
    rw [show (x.booth.fraction + t.reselect p r) / Config.quantaPerUnit = 0 from h]
    refine congrArg (s.change p) ?_
    unfold Booth.counted
    rw [h]
    rfl
  · rw [if_neg h]
    refine (if_neg h).trans ?_
    rw [State.change_charge, Change.charge_eq, State.change_evaluate]
    rfl

theorem State.change_countGrace : (s.change p x).countGrace p = s.change p (x.countGrace p s.settings.clearDownHold) := by
  unfold State.countGrace Change.countGrace
  dsimp only
  rw [State.change_booth]
  split
  · rw [State.change_enterClearing]
  · rw [State.onBooth_eq, State.change_booth, State.change_setBooth]

theorem State.change_moveTimer : (s.change p x).moveTimer p =
    s.change p { x with booth := x.booth.timed s.settings.clearDownHold } := by
  unfold State.moveTimer Booth.timed
  rw [State.change_booth]
  split
  · rw [State.onBooth_eq, State.change_booth, State.change_setBooth, State.change_settings]
  · rfl

/-! ### A tick at one booth (R36) -/

/-- The accrual of a tick at `p`: none without a rate in use (R36, R42). -/
def State.tickAccrual (s : State) (p : Position) : Change :=
  match (s.booth p).rate with
  | some r => (s.rewrite (s.booth p) (s.slot p)).accrue p s.settings.clearDownHold s.settings.graceTime (s.reselect p r)
  | none => s.rewrite (s.booth p) (s.slot p)

/-- The accrual of a tick at `p` and the move of its grace countdown (R13, R36). -/
def State.tickCountdown (s : State) (p : Position) : Change :=
  if (s.booth p).state = .grace ∧ (s.tickAccrual p).booth.state = .grace then
    (s.tickAccrual p).countGrace p s.settings.clearDownHold
  else s.tickAccrual p

/-- The change by a tick at `p` (R36). -/
def State.ticked (s : State) (p : Position) : Change :=
  if (s.booth p).timer.isSome then
    { s.tickCountdown p with booth := (s.tickCountdown p).booth.timed s.settings.clearDownHold }
  else s.tickCountdown p

theorem tickBooth_eq (s : State) (p : Position) : s.tickBooth p = s.change p (s.ticked p) := by
  have self := State.change_self s p
  have accrued : (match (s.booth p).rate with | some r => s.accrue p r | none => s) = s.change p (s.tickAccrual p) := by
    unfold State.tickAccrual
    split
    · exact (congrArg (fun t : State => t.accrue p _) self).trans (State.change_accrue _ (by rw [← self]))
    · exact self
  unfold State.tickBooth
  extract_lets b s1 s2
  have count : ∀ u, u = s.change p (s.tickAccrual p) → (if b.state = .grace ∧ (u.booth p).state = .grace then
      u.countGrace p else u) = s.change p (s.tickCountdown p) := by
    rintro u rfl
    rw [State.change_booth, State.change_countGrace]
    unfold State.tickCountdown
    split <;> rfl
  have counted : s2 = s.change p (s.tickCountdown p) := count s1 accrued
  unfold State.ticked
  rw [counted, State.change_moveTimer]
  split <;> rfl

theorem Change.accrue_slot (x : Change) (p : Position) (hold graceTime r : Nat) :
    (x.accrue p hold graceTime r).slot = x.slot ∧ (x.accrue p hold graceTime r).entries = x.entries ∧
      (x.accrue p hold graceTime r).debited = x.debited ∧
      (x.accrue p hold graceTime r).accrued = x.accrued + x.booth.newUnits r := by
  unfold Change.accrue
  split
  next h => exact ⟨rfl, rfl, rfl, by rw [h]; rfl⟩
  · exact ⟨rfl, rfl, rfl, rfl⟩

/-- What a tick at a booth leaves alone, and the units that it accrues there (R36, R66). -/
theorem ticked_frame (s : State) (p : Position) : (s.ticked p).slot = s.slot p ∧ (s.ticked p).entries = s.arrears ∧
    (s.ticked p).debited = 0 ∧ (s.ticked p).accrued = s.tickUnits p := by
  have accrual : (s.tickAccrual p).slot = s.slot p ∧ (s.tickAccrual p).entries = s.arrears ∧
      (s.tickAccrual p).debited = 0 ∧ (s.tickAccrual p).accrued = s.tickUnits p := by
    unfold State.tickAccrual State.tickUnits
    cases (s.booth p).rate with
    | none => exact ⟨rfl, rfl, rfl, rfl⟩
    | some r =>
      obtain ⟨slot, entries, debited, accrued⟩ := Change.accrue_slot (s.rewrite (s.booth p) (s.slot p)) p
        s.settings.clearDownHold s.settings.graceTime (s.reselect p r)
      exact ⟨slot, entries, debited, accrued.trans (Nat.zero_add _)⟩
  have countdown : (s.tickCountdown p).slot = s.slot p ∧ (s.tickCountdown p).entries = s.arrears ∧
      (s.tickCountdown p).debited = 0 ∧ (s.tickCountdown p).accrued = s.tickUnits p := by
    unfold State.tickCountdown Change.countGrace
    split
    · split <;> exact accrual
    · exact accrual
  unfold State.ticked
  split <;> exact countdown

/-! ### A tick at the booths one after the other (R36) -/

/-- A tick at a booth looks at its own contexts, the settings and the tables (R36, R37). -/
theorem ticked_of_same (hrest : SameRest s t) (harrears : t.arrears = s.arrears) (hbooth : t.booth p = s.booth p)
    (hslot : t.slot p = s.slot p) : t.ticked p = s.ticked p ∧ t.tickUnits p = s.tickUnits p := by
  have hsettings := hrest.settings
  obtain ⟨htariff, hschedule, -, hminute⟩ := hrest.1
  have period : t.currentPeriod = s.currentPeriod := by
    unfold State.currentPeriod State.setPoints
    rw [hschedule, hminute]
  have rate (r : Nat) : t.reselect p r = s.reselect p r := by
    unfold State.reselect State.lookup State.effectiveBand
    simp only [htariff, period, hsettings, hbooth]
  unfold State.ticked State.tickCountdown State.tickAccrual State.tickUnits State.rewrite
  simp only [rate, hsettings, hbooth, hslot, harrears, and_self]

/-- The booths of `l` have ticked one after the other. -/
structure Ticks (l : List Position) (s t : State) : Prop where
  rest : SameRest s t
  slots : t.slots = s.slots
  arrears : t.arrears = s.arrears
  booth : ∀ q, t.booth q = if q ∈ l then (s.ticked q).booth else s.booth q
  ledger : t.ledger = { s.ledger with
    accrued := s.ledger.accrued + (l.map s.tickUnits).sum,
    dropped := s.ledger.dropped + (l.map fun q => (s.ticked q).dropped).sum }
  reports : (t.reports, t.lost) = (l.flatMap fun q => (s.ticked q).records).foldl queued (s.reports, s.lost)

theorem ticks_foldl (l : List Position) (hl : l.Nodup) (s : State) :
    Ticks l s (l.foldl (fun s p => s.tickBooth p) s) := by
  induction l generalizing s with
  | nil => exact ⟨SameRest.refl s, rfl, rfl, fun q => by simp, rfl, rfl⟩
  | cons p l ih =>
    obtain ⟨hp, hl⟩ := List.nodup_cons.mp hl
    obtain ⟨slot, entries, debited, accrued⟩ := ticked_frame s p
    have first := tickBooth_eq s p
    have here := localAt_change s p (s.ticked p)
    have next := ih hl (s.tickBooth p)
    rw [first] at next
    have same : ∀ q ∈ l, (s.change p (s.ticked p)).ticked q = s.ticked q ∧
        (s.change p (s.ticked p)).tickUnits q = s.tickUnits q := fun q hq =>
      have hqp : q ≠ p := fun h => hp (h ▸ hq)
      ticked_of_same here.rest entries (here.booths q hqp) (here.slots q hqp)
    rw [List.foldl_cons, first]
    have records := List.flatMap_congr fun q hq => congrArg Change.records (same q hq).1
    have units := congrArg List.sum (List.map_congr_left fun q hq => (same q hq).2)
    have dropped := congrArg List.sum (List.map_congr_left fun q hq => congrArg Change.dropped (same q hq).1)
    refine ⟨here.rest.trans next.rest, next.slots.trans ?_, next.arrears.trans entries, fun q => ?_, ?_, ?_⟩
    · exact (congrArg (fun c => (s.setSlot p c).slots) slot).trans (congrArg State.slots (State.setSlot_slot s p))
    · rw [next.booth q]
      by_cases hq : q ∈ l
      · rw [if_pos hq, if_pos (List.mem_cons_of_mem p hq), (same q hq).1]
      · by_cases hqp : q = p
        · rw [if_neg hq, hqp, if_pos List.mem_cons_self, State.change_booth]
        · rw [if_neg hq, here.booths q hqp, if_neg (by simp [hq, hqp])]
    · rw [next.ledger, units, dropped, State.change_ledger, accrued, debited, List.map_cons, List.map_cons, List.sum_cons,
        List.sum_cons, Nat.add_assoc, Nat.add_assoc]
      rfl
    · rw [next.reports, records, List.flatMap_cons, List.foldl_append]
      rfl

theorem ticks_forAll (s : State) : Ticks positions s (s.forAll State.tickBooth) := ticks_foldl positions positions_nodup s

/-! ### Entries that expire (R75, R79) -/

theorem State.posts_withArrears (s : State) (rs : List Report) (n : Nat) (l : List ArrearsEntry) :
    ({ s.posts rs n with arrears := l } : State) = ({ s with arrears := l } : State).posts rs n := by
  rw [State.posts_eq_queued, State.posts_eq_queued]

theorem expire_eq_posts (s : State) (e : ArrearsEntry) : s.expire e =
    ({ s with arrears := withoutEntry s.arrears e.serial } : State).posts (entryRecords e .expired) e.units :=
  dropEntry_eq_posts ..

/-- Entries that expire one after the other (R79). -/
theorem foldl_expire_eq_posts (l : List ArrearsEntry) (s : State) : l.foldl State.expire s =
    ({ s with arrears := (l.foldl State.expire s).arrears } : State).posts (l.flatMap fun e => entryRecords e .expired)
      (l.map ArrearsEntry.units).sum := by
  induction l generalizing s with
  | nil => rfl
  | cons e l ih =>
    rw [List.foldl_cons, ih]
    have arrears (rs : List Report) (n : Nat) : (({ s.expire e with
        arrears := (l.foldl State.expire (s.expire e)).arrears } : State).posts rs n).arrears =
          (l.foldl State.expire (s.expire e)).arrears := State.posts_arrears ..
    rw [arrears, expire_eq_posts s e, State.posts_withArrears, State.posts_posts, List.flatMap_cons, List.map_cons,
      List.sum_cons]

/-- The entries that reach the arrears retention in an age step (R78, R79). -/
def State.expiring (s : State) : List ArrearsEntry :=
  (s.arrears.map fun e => { e with age := e.age + 1 }).filter fun e => s.settings.retention ≤ e.age

theorem ageEntries_eq_posts (s : State) : s.ageEntries =
    ({ s with arrears := s.ageEntries.arrears } : State).posts (s.expiring.flatMap fun e => entryRecords e .expired)
      (s.expiring.map ArrearsEntry.units).sum := foldl_expire_eq_posts ..

/-- Settles O49. -/
theorem ageStepExpiresOldEntries : Obligations.AgeStepExpiresOldEntries := by
  intro s serial hrun aged gone expired records
  have live (f : State → State) : s.live f = f s := State.live_of_running hrun f
  refine ⟨congrArg Host.Outcome.next (live _), fun hdistinct hroom => ?_, fun e he hage hroom => ?_, fun hyoung => ?_⟩
  · refine congrArg Host.Outcome.next ((live _).trans ((ageEntries_eq_posts s).trans ?_))
    rw [ageEntries_arrears hdistinct]
    exact State.posts_of_room _ hroom
  · have found : findEntry s.arrears serial.toNat = some e := he
    have named : e.serial = serial.toNat := of_decide_eq_true (List.find?_some he :)
    refine congrArg Host.Outcome.next ((live _).trans ?_)
    dsimp only
    rw [found]
    dsimp only
    rw [if_pos hage, expire_eq_posts, named]
    exact State.posts_of_room _ hroom
  · refine congrArg Host.Outcome.next ((live _).trans ?_)
    cases found : findEntry s.arrears serial.toNat with
    | none => rfl
    | some e =>
      dsimp only
      exact if_neg (Nat.not_le.mpr (hyoung e (List.mem_of_find?_eq_some found)
        (of_decide_eq_true (List.find?_some found :))))

end Sys2Proof.Machine

/-! ## A tick as a command (R24, R25, R36 to R42, R78, R137, R145) -/

namespace Sys2Proof.Machine

variable {s t : State} {p q : Position} {x : Change} {b : Booth}

/-- `s` once a tick has moved the counts that do not wait for the booths (R24, R145). -/
def State.tickStarted (s : State) : State :=
  { s with divider := 0, tickCount := (s.tickCount + 1) % 600, sup := s.sup.tick }

/-- The flash step of a tick, where it marks one (R137). -/
def State.tickFlash (s : State) (n : Nat) : State := if n % 5 = 0 then s.toggleFlash else s

/-- The age step of a tick, where it marks one (R78). -/
def State.tickAge (s : State) (n : Nat) : State := if n = 0 then s.ageEntries else s

theorem tick_eq (s : State) : s.tick =
    ((s.tickStarted.forAll State.tickBooth).tickFlash ((s.tickCount + 1) % 600)).tickAge ((s.tickCount + 1) % 600) := rfl

/-- What a tick makes of the state but for the list, the queue and the units that it drops. -/
structure TickLeaves (s t : State) : Prop where
  booth : ∀ q, t.booth q = (s.ticked q).booth
  slots : t.slots = s.slots
  tables : SameTables s t
  divider : t.divider = 0
  port : t.port = s.port
  tickCount : t.tickCount = (s.tickCount + 1) % 600
  sup : t.sup = s.sup.tick
  scan : t.scan = { s.scan with flash := if (s.tickCount + 1) % 5 = 0 then !s.scan.flash else s.scan.flash }
  accrued : t.ledger.accrued = s.ledger.accrued + (positions.map s.tickUnits).sum
  debited : t.ledger.debited = s.ledger.debited
  reset : SameReset s t

theorem tickFlash_eq (s : State) (n : Nat) : s.tickFlash n =
    { s with scan := { s.scan with flash := if n % 5 = 0 then !s.scan.flash else s.scan.flash } } := by
  unfold State.tickFlash State.toggleFlash
  split <;> rfl

theorem tickAge_eq_posts (s : State) (n : Nat) : ∃ rs k, s.tickAge n =
    ({ s with arrears := (s.tickAge n).arrears } : State).posts rs k := by
  unfold State.tickAge
  split
  · exact ⟨_, _, ageEntries_eq_posts s⟩
  · exact ⟨[], 0, rfl⟩

theorem tick_leaves (s : State) : TickLeaves s s.tick := by
  have ticks := ticks_forAll s.tickStarted
  obtain ⟨rs, k, aged⟩ := tickAge_eq_posts ((s.tickStarted.forAll State.tickBooth).tickFlash ((s.tickCount + 1) % 600))
    ((s.tickCount + 1) % 600)
  rw [tick_eq, aged, tickFlash_eq]
  generalize (State.tickAge _ _).arrears = l
  generalize s.tickStarted.forAll State.tickBooth = t at ticks
  obtain ⟨tables, ⟨divider, tickCount, scan, sup, reset, -⟩, port⟩ := sameRest_posts ({ t with
    arrears := l, scan := { t.scan with
      flash := if (s.tickCount + 1) % 600 % 5 = 0 then !t.scan.flash else t.scan.flash } }) rs k
  obtain ⟨⟨tables', ⟨divider', tickCount', scan', sup', reset', -⟩, port'⟩, slots', -, booth', ledger', -⟩ := ticks
  refine ⟨fun q => ?_, ?_, ?_, divider.trans divider', port.trans port', tickCount.trans tickCount', sup.trans sup', ?_,
    ?_, ?_, ⟨reset.1.trans reset'.1, reset.2.1.trans reset'.2.1, reset.2.2.1.trans reset'.2.2.1,
      reset.2.2.2.trans reset'.2.2.2⟩⟩
  · rw [State.posts_booth]
    exact (booth' q).trans (if_pos (mem_positions q))
  · rw [State.posts_slots]
    exact slots'
  · exact ⟨tables.1.trans tables'.1, tables.2.1.trans tables'.2.1, tables.2.2.1.trans tables'.2.2.1,
      tables.2.2.2.trans tables'.2.2.2⟩
  · rw [scan, scan', Nat.mod_mod_of_dvd _ (by decide)]
    rfl
  · rw [State.posts_ledger, ledger']
    rfl
  · rw [State.posts_ledger, ledger']
    rfl

theorem exec_chargeTick (h : s.running) : exec .chargeTick s = .next s.tick :=
  congrArg Host.Outcome.next (State.live_of_running h _)

theorem tickStarted_ticked (s : State) (q : Position) : s.tickStarted.ticked q = s.ticked q := rfl

theorem tickStarted_kept (s : State) : s.tickStarted.reports = s.reports ∧ s.tickStarted.lost = s.lost ∧
    s.tickStarted.ledger = s.ledger ∧ s.tickStarted.settings = s.settings := ⟨rfl, rfl, rfl, rfl⟩

/-- A tick that ages no entry to the retention: its records are those of its booths (R36, R79). -/
theorem tick_reports (h : (s.tickCount + 1) % 600 = 0 → ∀ e ∈ s.arrears, e.age + 1 < s.settings.retention) :
    (s.tick.reports, s.tick.lost) = (positions.flatMap fun q => (s.ticked q).records).foldl queued (s.reports, s.lost) ∧
      s.tick.ledger.dropped = s.ledger.dropped + (positions.map fun q => (s.ticked q).dropped).sum := by
  have ticks := ticks_forAll s.tickStarted
  rw [tick_eq, tickFlash_eq]
  generalize s.tickStarted.forAll State.tickBooth = t at ticks
  obtain ⟨rest, -, arrears, -, ledger, reports⟩ := ticks
  obtain ⟨reports', lost', ledger', settings'⟩ := tickStarted_kept s
  have hsettings := rest.settings
  simp only [tickStarted_ticked, reports', lost', ledger', settings'] at ledger reports hsettings
  have dropped := congrArg Ledger.dropped ledger
  generalize (positions.flatMap fun q => (s.ticked q).records).foldl queued (s.reports, s.lost) = queue at *
  generalize (positions.map fun q => (s.ticked q).dropped).sum = units at *
  unfold State.tickAge
  split
  next hwrap =>
    have none : ({ t with scan := { t.scan with
        flash := if (s.tickCount + 1) % 600 % 5 = 0 then !t.scan.flash else t.scan.flash } } : State).expiring = [] := by
      refine List.filter_eq_nil_iff.mpr fun e he => ?_
      obtain ⟨y, hy, rfl⟩ := List.mem_map.mp he
      rw [show t.arrears = s.arrears from arrears] at hy
      rw [decide_eq_true_eq, Nat.not_le]
      have young := h hwrap y hy
      rw [← hsettings] at young
      exact young
    rw [ageEntries_eq_posts, none]
    exact ⟨reports, dropped⟩
  · exact ⟨reports, dropped⟩

/-! ### The accrual of a tick (R36 to R42) -/

/-- The booth after accrual, W included, while the state has not followed it (R37 to R40). -/
def Booth.accrued (b : Booth) (r : Nat) : Booth := { b.counted r with owed := min 65535 (b.owed + b.newUnits r) }

theorem tickAccrual_of_unrated (h : (s.booth p).rate = none) : s.tickAccrual p = s.rewrite (s.booth p) (s.slot p) := by
  unfold State.tickAccrual
  rw [h]

theorem tickAccrual_of_rated {held : Nat} (h : (s.booth p).rate = some held) :
    s.tickAccrual p = (s.rewrite (s.booth p) (s.slot p)).accrue p s.settings.clearDownHold s.settings.graceTime
      (s.reselect p held) := by
  unfold State.tickAccrual
  rw [h]

theorem tickUnits_of_rated {held : Nat} (h : (s.booth p).rate = some held) :
    s.tickUnits p = (s.booth p).newUnits (s.reselect p held) := by
  unfold State.tickUnits
  rw [h]
  rfl

theorem tickUnits_of_unrated (h : (s.booth p).rate = none) : s.tickUnits p = 0 := by
  unfold State.tickUnits
  rw [h]

/-- Units added to W that fit, or that reach a booth with no call up or no running credit, leave the state (R40). -/
theorem Booth.charged_of_not {n : Nat} (h : ¬ ((b.state = .call ∨ b.state = .grace) ∧ 65535 < b.owed + n)) (hold : Nat) :
    b.charged hold n = { b with owed := min 65535 (b.owed + n) } := if_neg h

/-- Accrual that takes no W past 65,535 (R38, R40). -/
theorem Change.accrue_of_fits {r : Nat} (hfits : x.booth.owed + x.booth.newUnits r ≤ 65535) (hold graceTime : Nat) :
    x.accrue p hold graceTime r = { x with
      booth := if x.booth.newUnits r = 0 then x.booth.accrued r else (x.booth.accrued r).evaluated x.slot graceTime,
      accrued := x.accrued + x.booth.newUnits r } := by
  have none : (x.booth.counted r).overflow (x.booth.newUnits r) = 0 := Nat.sub_eq_zero_of_le hfits
  unfold Change.accrue
  by_cases h : x.booth.newUnits r = 0
  · have same : x.booth.accrued r = x.booth.counted r := by
      unfold Booth.accrued
      rw [h, Nat.add_zero, Nat.min_eq_right (by omega)]
      rfl
    rw [if_pos h, if_pos h, same, h]
    rfl
  · have charged := Booth.charged_of_not (b := x.booth.counted r) (fun full => Nat.not_lt.mpr hfits full.2) hold
    unfold Booth.overflowRecords
    rw [if_neg h, if_neg h, none, if_neg (Nat.lt_irrefl 0), charged, List.append_nil]
    rfl

end Sys2Proof.Machine

/-! ## What a tick comes to at a booth (R12 to R16, R36 to R42) -/

namespace Sys2Proof.Machine

variable {s t : State} {p q : Position} {x : Change} {b : Booth} {c : Intercept}

/-! ### Credit evaluated (R3, R12, R14) -/

theorem credit_of_unknown (h : b.known = none) (c : Intercept) : credit b c = none := by
  unfold credit
  rw [h]
  rfl

theorem credit_of_known {n : Nat} (h : b.known = some n) (c : Intercept) :
    credit b c = some ((n : Int) - b.owed - c.k - pairK b.pendingRes) := by
  unfold credit
  rw [h]
  rfl

theorem Booth.evaluated_of_credit {cr : Int} (h : credit b c = some cr) (graceTime : Nat) :
    b.evaluated c graceTime =
      if b.state = .call ∧ cr ≤ 0 then { b with state := .grace, grace := graceTime * 10 }
      else if b.state = .grace ∧ (b.present = .yes ∧ b.serial.isSome = true) ∧ 0 < cr then
        { b with state := .call, grace := 0 }
      else b := by
  obtain ⟨n, hn⟩ : ∃ n, b.known = some n := by
    refine Option.ne_none_iff_exists'.mp fun hnone => ?_
    rw [credit_of_unknown hnone] at h
    exact nomatch h
  obtain rfl := Option.some.inj ((credit_of_known hn c).symm.trans h)
  have serial : b.serial.isSome = true ↔ b.serialHigh.isSome = true ∧ b.serialLow.isSome = true := by
    unfold Booth.serial
    cases b.serialHigh <;> cases b.serialLow <;> simp
  rw [Booth.evaluated_of_known hn]
  simp only [serial, and_assoc]

theorem Booth.evaluated_of_undefined (h : credit b c = none) (graceTime : Nat) : b.evaluated c graceTime = b := by
  refine Booth.evaluated_of_unknown (Option.eq_none_iff_forall_ne_some.mpr fun n hn => ?_) c graceTime
  rw [credit_of_known hn] at h
  exact nomatch h

/-- A call goes on while its credit is undefined or above 0 (R12). -/
theorem Booth.evaluated_of_call (hcall : b.state = .call) (h : ∀ cr, credit b c = some cr → 0 < cr) (graceTime : Nat) :
    b.evaluated c graceTime = b := by
  cases hcr : credit b c with
  | none => exact Booth.evaluated_of_undefined hcr graceTime
  | some cr =>
    rw [Booth.evaluated_of_credit hcr, if_neg fun hle => Int.not_le.mpr (h cr hcr) hle.2, if_neg]
    rw [hcall]
    nofun

/-- GRACE goes on while no identified card brings a credit above 0 (R14). -/
theorem Booth.evaluated_of_grace (hgrace : b.state = .grace)
    (h : ∀ cr, b.present = .yes ∧ b.serial.isSome = true → credit b c = some cr → cr ≤ 0) (graceTime : Nat) :
    b.evaluated c graceTime = b := by
  cases hcr : credit b c with
  | none => exact Booth.evaluated_of_undefined hcr graceTime
  | some cr =>
    rw [Booth.evaluated_of_credit hcr, if_neg (by rw [hgrace]; nofun), if_neg]
    rintro ⟨-, hcard, hpos⟩
    exact Int.not_lt.mpr (h cr hcard hcr) hpos

theorem Booth.evaluated_from_grace (hgrace : b.state = .grace) (c : Intercept) (graceTime : Nat) :
    b.evaluated c graceTime = b ∨ (b.evaluated c graceTime).state = .call := by
  cases hcr : credit b c with
  | none => exact .inl (Booth.evaluated_of_undefined hcr graceTime)
  | some cr =>
    rw [Booth.evaluated_of_credit hcr, if_neg (by rw [hgrace]; nofun)]
    split
    · exact .inr rfl
    · exact .inl rfl

/-- New units take as much from credit (R3, R38). -/
theorem credit_accrued {r : Nat} (hfits : b.owed + b.newUnits r ≤ 65535) (c : Intercept) :
    credit (b.accrued r) c = (credit b c).map (· - (b.newUnits r : Int)) := by
  unfold credit Booth.accrued Booth.counted
  rw [Nat.min_eq_right hfits]
  cases b.known with
  | none => rfl
  | some n =>
    refine congrArg some ?_
    dsimp only
    omega

/-! ### Ticks that place nothing (R13, R40) -/

theorem Change.accrue_of_none {r : Nat} (h : x.booth.newUnits r = 0) (hold graceTime : Nat) :
    x.accrue p hold graceTime r = { x with booth := x.booth.counted r } := if_pos h

/-- Accrual that takes no W past 65,535 places nothing, and a booth that stays in GRACE keeps its countdown (R40). -/
theorem accrual_quiet (h : s.tickUnits p = 0 ∨ (s.booth p).owed + s.tickUnits p ≤ 65535) :
    (s.tickAccrual p).records = [] ∧ (s.tickAccrual p).dropped = 0 ∧
      ((s.booth p).state = .grace → (s.tickAccrual p).booth.state = .grace →
        (s.tickAccrual p).booth.grace = (s.booth p).grace) := by
  cases hr : (s.booth p).rate with
  | none =>
    rw [tickAccrual_of_unrated hr]
    exact ⟨rfl, rfl, fun _ _ => rfl⟩
  | some held =>
    rw [tickUnits_of_rated hr] at h
    rw [tickAccrual_of_rated hr]
    by_cases hnone : (s.booth p).newUnits (s.reselect p held) = 0
    · rw [Change.accrue_of_none hnone]
      exact ⟨rfl, rfl, fun _ _ => rfl⟩
    · rw [Change.accrue_of_fits (h.resolve_left hnone)]
      dsimp only
      refine ⟨rfl, rfl, fun hgrace hstays => ?_⟩
      rw [if_neg (by exact hnone)] at hstays ⊢
      rcases Booth.evaluated_from_grace (b := (s.booth p).accrued (s.reselect p held)) hgrace (s.slot p)
        s.settings.graceTime with hsame | hcall
      · exact (congrArg Booth.grace hsame).trans rfl
      · exact absurd (hstays.symm.trans hcall) nofun

/-- A tick that takes no W past 65,535 and ends no countdown places nothing at its booth (R13, R40). -/
theorem ticked_quiet (h : s.tickPlacesNoReport p) : (s.ticked p).records = [] ∧ (s.ticked p).dropped = 0 := by
  obtain ⟨records, dropped, grace⟩ := accrual_quiet h.1
  have counted : (s.tickCountdown p).records = [] ∧ (s.tickCountdown p).dropped = 0 := by
    unfold State.tickCountdown Change.countGrace
    split
    next hboth =>
      rw [if_neg (by rw [grace hboth.1 hboth.2]; exact Nat.not_le.mpr (h.2 hboth.1))]
      exact ⟨records, dropped⟩
    · exact ⟨records, dropped⟩
  unfold State.ticked
  split <;> exact counted

/-- Of the parts of a list that are empty but for one, that one is left. -/
theorem flatMap_alone {α β : Type} {l : List α} (hl : l.Nodup) {f : α → List β} {a : α} (ha : a ∈ l)
    (h : ∀ y, y ≠ a → f y = []) : l.flatMap f = f a := by
  obtain ⟨before, after, rfl⟩ := List.append_of_mem ha
  obtain ⟨-, ⟨hafter, -⟩, hbefore⟩ := List.nodup_append.mp hl |>.imp_right (And.imp_left List.nodup_cons.mp)
  rw [List.flatMap_append, List.flatMap_cons, List.flatMap_eq_nil_iff.mpr fun y hy => h y (hbefore y hy a List.mem_cons_self),
    List.flatMap_eq_nil_iff.mpr fun y hy => h y fun heq => hafter (heq ▸ hy), List.append_nil, List.nil_append]

/-- Of terms that are 0 but for one, that one is the sum. -/
theorem sum_alone {α : Type} {l : List α} (hl : l.Nodup) {f : α → Nat} {a : α} (ha : a ∈ l) (h : ∀ y, y ≠ a → f y = 0) :
    (l.map f).sum = f a := by
  obtain ⟨before, after, rfl⟩ := List.append_of_mem ha
  obtain ⟨-, ⟨hafter, -⟩, hbefore⟩ := List.nodup_append.mp hl |>.imp_right (And.imp_left List.nodup_cons.mp)
  have zero (k : List α) (hk : ∀ y ∈ k, y ≠ a) : (k.map f).sum = 0 :=
    List.sum_eq_zero fun n hn => by
      obtain ⟨y, hy, rfl⟩ := List.mem_map.mp hn
      exact h y (hk y hy)
  rw [List.map_append, List.map_cons, List.sum_append, List.sum_cons, zero before fun y hy => hbefore y hy a
    List.mem_cons_self, zero after fun y hy heq => hafter (heq ▸ hy), Nat.zero_add, Nat.add_zero]

/-- A tick that places nothing at other booths and expires no entry places what it does at `p` (R13, R40, R79). -/
theorem tick_reports_alone (h : s.QuietTick p) :
    (s.tick.reports, s.tick.lost) = (s.ticked p).records.foldl queued (s.reports, s.lost) ∧
      s.tick.ledger.dropped = s.ledger.dropped + (s.ticked p).dropped := by
  obtain ⟨reports, dropped⟩ := tick_reports h.entries
  rw [flatMap_alone positions_nodup (mem_positions p) fun q hq => (ticked_quiet (h.others q hq)).1] at reports
  rw [sum_alone positions_nodup (mem_positions p) fun q hq => (ticked_quiet (h.others q hq)).2] at dropped
  exact ⟨reports, dropped⟩

/-! ### The booth after a tick -/

theorem Booth.timed_of_still (h : ¬ (b.state = .clearing ∨ (b.state = .fault ∧ b.callUp = true))) (hold : Nat) :
    b.timed hold = b := if_neg (mt clearingDown_iff.mp h)

theorem Booth.timed_of_clearing (h : b.state = .clearing ∨ (b.state = .fault ∧ b.callUp = true)) (hold : Nat) :
    b.timed hold = { b with timer := b.timer.map (ClearDown.move hold) } := if_pos (clearingDown_iff.mpr h)

/-- The last step of a tick, where the booth had a timer (R36). -/
theorem ticked_booth (s : State) (p : Position) : (s.ticked p).booth =
    if (s.booth p).timer.isSome then (s.tickCountdown p).booth.timed s.settings.clearDownHold
    else (s.tickCountdown p).booth := by
  unfold State.ticked
  split <;> rfl

theorem countdown_of_other (h : ¬ ((s.booth p).state = .grace ∧ (s.tickAccrual p).booth.state = .grace)) :
    s.tickCountdown p = s.tickAccrual p := if_neg h

/-- A tick in CALL, and one that has taken the booth out of GRACE into CALL, ends with its accrual. -/
theorem ticked_of_still (h : ¬ ((s.booth p).state = .grace ∧ (s.tickAccrual p).booth.state = .grace))
    (hstill : ¬ ((s.tickAccrual p).booth.state = .clearing ∨
      ((s.tickAccrual p).booth.state = .fault ∧ (s.tickAccrual p).booth.callUp = true))) :
    (s.ticked p).booth = (s.tickAccrual p).booth := by
  rw [ticked_booth, countdown_of_other h, Booth.timed_of_still hstill, ite_self]

/-- A tick in GRACE whose accrual leaves it there counts the countdown down (R13). -/
theorem ticked_of_grace (h : (s.booth p).state = .grace) (hstays : (s.tickAccrual p).booth.state = .grace)
    (hlong : 2 ≤ (s.tickAccrual p).booth.grace) :
    (s.ticked p).booth = { (s.tickAccrual p).booth with grace := (s.tickAccrual p).booth.grace - 1 } := by
  have counted : (s.tickCountdown p).booth = { (s.tickAccrual p).booth with
      grace := (s.tickAccrual p).booth.grace - 1 } := by
    unfold State.tickCountdown Change.countGrace
    rw [if_pos ⟨h, hstays⟩, if_neg (Nat.not_le.mpr hlong)]
  rw [ticked_booth, counted, Booth.timed_of_still (by rw [hstays]; nofun), ite_self]

/-- A tick outside CALL and GRACE moves the clear-down timer after its accrual (R16, R36). -/
theorem ticked_of_other {b' : Booth} (hgrace : (s.booth p).state ≠ .grace) (hb : (s.tickAccrual p).booth = b')
    (hstate : b'.state = (s.booth p).state) (hcall : b'.callUp = (s.booth p).callUp) (htimer : b'.timer = (s.booth p).timer) :
    (s.ticked p).booth = { b' with
      timer := if (s.booth p).state = .clearing ∨ ((s.booth p).state = .fault ∧ (s.booth p).callUp = true) then
          (s.booth p).timer.map (ClearDown.move s.settings.clearDownHold)
        else (s.booth p).timer } := by
  rw [ticked_booth, countdown_of_other (fun h => hgrace h.1), hb]
  rw [← hstate, ← hcall, ← htimer]
  by_cases hruns : b'.state = .clearing ∨ (b'.state = .fault ∧ b'.callUp = true)
  · rw [Booth.timed_of_clearing hruns, if_pos hruns]
    cases hnone : b'.timer with
    | none =>
      have self : ({ b' with timer := none } : Booth) = b' := by rw [← hnone]
      exact self.symm
    | some x => rfl
  · rw [Booth.timed_of_still hruns, if_neg hruns, ite_self]

/-- `b'` is `b` but for state, grace countdown and clear-down timer. -/
def Booth.MovedTo (b b' : Booth) : Prop := b' = { b with state := b'.state, grace := b'.grace, timer := b'.timer }

theorem Booth.MovedTo.trans {b b' b'' : Booth} (h : b.MovedTo b') (h' : b'.MovedTo b'') : b.MovedTo b'' := by
  unfold Booth.MovedTo at *
  rw [h', h]

theorem Booth.movedTo_evaluated (b : Booth) (c : Intercept) (graceTime : Nat) : b.MovedTo (b.evaluated c graceTime) := by
  obtain ⟨_, _, moved⟩ := b.evaluated_frame c graceTime
  unfold Booth.MovedTo
  rw [moved]

theorem Booth.movedTo_timed (b : Booth) (hold : Nat) : b.MovedTo (b.timed hold) := by
  unfold Booth.timed
  split <;> rfl

theorem Booth.movedTo_charged (b : Booth) (hold n : Nat) :
    ({ b with owed := min 65535 (b.owed + n) } : Booth).MovedTo (b.charged hold n) := by
  unfold Booth.charged
  split <;> rfl

/-- Accrual at a booth whose W is in range moves state, grace countdown and timer at most (R36 to R40). -/
theorem movedTo_accrual {held : Nat} (hr : (s.booth p).rate = some held) (howed : (s.booth p).owed ≤ 65535) :
    ((s.booth p).accrued (s.reselect p held)).MovedTo (s.tickAccrual p).booth := by
  rw [tickAccrual_of_rated hr]
  generalize s.reselect p held = r
  unfold Change.accrue
  split
  next hnone =>
    have hnone : (s.booth p).newUnits r = 0 := hnone
    unfold Booth.accrued
    rw [hnone, Nat.add_zero, Nat.min_eq_right howed]
    rfl
  · exact (Booth.movedTo_charged ..).trans (Booth.movedTo_evaluated ..)

theorem movedTo_countdown (s : State) (p : Position) : (s.tickAccrual p).booth.MovedTo (s.tickCountdown p).booth := by
  unfold State.tickCountdown Change.countGrace
  split
  · split <;> rfl
  · rfl

/-- A tick moves state, grace countdown and timer at most once its accrual is done (R36). -/
theorem movedTo_ticked (s : State) (p : Position) : (s.tickAccrual p).booth.MovedTo (s.ticked p).booth := by
  rw [ticked_booth]
  split
  · exact (movedTo_countdown s p).trans (Booth.movedTo_timed ..)
  · exact movedTo_countdown s p

/-- Accrual that fits, at a booth whose W is in range (R38 to R40). -/
theorem accrual_of_fits {held : Nat} (hr : (s.booth p).rate = some held)
    (hfits : (s.booth p).owed + s.tickUnits p ≤ 65535) :
    (s.tickAccrual p).booth = if s.tickUnits p = 0 then (s.booth p).accrued (s.reselect p held)
      else ((s.booth p).accrued (s.reselect p held)).evaluated (s.slot p) s.settings.graceTime := by
  rw [tickUnits_of_rated hr] at hfits ⊢
  rw [tickAccrual_of_rated hr, Change.accrue_of_fits (by exact hfits)]
  rfl

/-- Accrual outside CALL and GRACE leaves state, grace countdown and timer (R40). -/
theorem accrual_of_other {held : Nat} (hr : (s.booth p).rate = some held) (howed : (s.booth p).owed ≤ 65535)
    (hcall : (s.booth p).state ≠ .call) (hgrace : (s.booth p).state ≠ .grace) :
    (s.tickAccrual p).booth = (s.booth p).accrued (s.reselect p held) := by
  rw [tickAccrual_of_rated hr]
  generalize s.reselect p held = r
  unfold Change.accrue
  split
  next hnone =>
    have hnone : (s.booth p).newUnits r = 0 := hnone
    unfold Booth.accrued
    rw [hnone, Nat.add_zero, Nat.min_eq_right howed]
    rfl
  · have charged := Booth.charged_of_not (b := (s.booth p).counted r) (n := (s.booth p).newUnits r)
      (fun full => full.1.elim hcall hgrace) s.settings.clearDownHold
    exact (congrArg (fun b : Booth => b.evaluated (s.slot p) s.settings.graceTime) charged).trans
      (Booth.evaluated_of_other (b := (s.booth p).accrued r) hcall hgrace _)

theorem Ledger.eq_of {l m : Ledger} (accrued : l.accrued = m.accrued) (debited : l.debited = m.debited)
    (dropped : l.dropped = m.dropped) : l = m := by
  cases l
  cases m
  obtain rfl : _ = _ := accrued
  obtain rfl : _ = _ := debited
  obtain rfl : _ = _ := dropped
  rfl

/-- A call whose new units leave it no credit goes to GRACE (R12). -/
theorem ticked_call_ends {held : Nat} (hr : (s.booth p).rate = some held)
    (hfits : (s.booth p).owed + s.tickUnits p ≤ 65535) (hcall : (s.booth p).state = .call) {cr : Int}
    (hcr : s.credit p = some cr) (hle : cr ≤ (s.tickUnits p : Nat)) (hpos : 0 < s.tickUnits p) :
    (s.ticked p).booth = { (s.booth p).accrued (s.reselect p held) with
      state := .grace, grace := s.settings.graceTime * 10 } := by
  have left := credit_accrued (b := s.booth p) (r := s.reselect p held) (tickUnits_of_rated hr ▸ hfits) (s.slot p)
  rw [← tickUnits_of_rated hr, show credit (s.booth p) (s.slot p) = some cr from hcr] at left
  have done := accrual_of_fits hr hfits
  rw [if_neg (Nat.ne_of_gt hpos), Booth.evaluated_of_credit left, if_pos ⟨hcall, Int.sub_nonpos_of_le hle⟩] at done
  rw [ticked_of_still (fun h => nomatch hcall.symm.trans h.1) (by rw [done]; nofun), done]

/-- A call goes on while it has credit, or has had no new units (R12). -/
theorem ticked_call_stays {held : Nat} (hr : (s.booth p).rate = some held)
    (hfits : (s.booth p).owed + s.tickUnits p ≤ 65535) (hcall : (s.booth p).state = .call)
    (h : s.tickUnits p = 0 ∨ ∀ cr, s.credit p = some cr → (s.tickUnits p : Nat) < cr) :
    (s.ticked p).booth = (s.booth p).accrued (s.reselect p held) := by
  have done : (s.tickAccrual p).booth = (s.booth p).accrued (s.reselect p held) := by
    rw [accrual_of_fits hr hfits]
    split
    · rfl
    next hsome =>
      refine Booth.evaluated_of_call (b := (s.booth p).accrued (s.reselect p held)) hcall (fun cr hcr => ?_) _
      rw [credit_accrued (tickUnits_of_rated hr ▸ hfits), ← tickUnits_of_rated hr] at hcr
      obtain ⟨before, hbefore, rfl⟩ := Option.map_eq_some_iff.mp hcr
      exact Int.sub_pos_of_lt (h.resolve_left hsome before hbefore)
  rw [ticked_of_still (fun h => nomatch hcall.symm.trans h.1)
    (by rw [done, show ((s.booth p).accrued (s.reselect p held)).state = .call from hcall]; nofun), done]

/-- Accrual leaves a booth in GRACE there while no identified card brings credit (R14). -/
theorem accrual_grace_stays {held : Nat} (hr : (s.booth p).rate = some held)
    (hfits : (s.booth p).owed + s.tickUnits p ≤ 65535) (hgrace : (s.booth p).state = .grace)
    (h : s.tickUnits p = 0 ∨ ∀ cr, (s.booth p).present = .yes ∧ (s.booth p).serial.isSome = true →
      s.credit p = some cr → cr ≤ (s.tickUnits p : Nat)) :
    (s.tickAccrual p).booth = (s.booth p).accrued (s.reselect p held) := by
  rw [accrual_of_fits hr hfits]
  split
  · rfl
  next hsome =>
    refine Booth.evaluated_of_grace (b := (s.booth p).accrued (s.reselect p held)) hgrace (fun cr hcard hcr => ?_) _
    rw [credit_accrued (tickUnits_of_rated hr ▸ hfits), ← tickUnits_of_rated hr] at hcr
    obtain ⟨before, hbefore, rfl⟩ := Option.map_eq_some_iff.mp hcr
    exact Int.sub_nonpos_of_le (h.resolve_left hsome before hcard hbefore)

/-- Settles O44. -/
theorem tickAccruesAtTheReselectedRate : Obligations.TickAccruesAtTheReselectedRate := by
  intro s p held hrun hr howed b rate sum charged
  have units : s.tickUnits p = sum / 1024 := tickUnits_of_rated hr
  obtain ⟨booth, slots, tables, divider, port, -, -, -, accrued, debited⟩ := tick_leaves s
  have moved : charged.MovedTo (s.ticked p).booth := (movedTo_accrual hr howed).trans (movedTo_ticked s p)
  refine ⟨s.tick, exec_chargeTick hrun, tables, divider, slots, port, ?_⟩
  rw [booth p]
  refine ⟨?_, ?_, ?_, ?_, moved, fun hfits => ⟨fun hcall => ⟨fun cr hcr hle hpos => ?_, fun hlow => ?_⟩,
    fun hgrace hlong hlow => ?_⟩, fun hcall hgrace => ?_, accrued, fun hquiet hnone => ?_⟩
  · rw [moved]
  · rw [moved]
  · rw [moved]
  · rw [moved]
  · rw [← units] at hle hpos
    exact ticked_call_ends hr (units ▸ hfits) hcall hcr hle hpos
  · rw [← units] at hlow
    exact ticked_call_stays hr (units ▸ hfits) hcall hlow
  · rw [← units] at hlow
    have stays := accrual_grace_stays hr (units ▸ hfits) hgrace hlow
    refine (ticked_of_grace hgrace (by rw [stays]; exact hgrace) (by rw [stays]; exact hlong)).trans ?_
    rw [stays]
    rfl
  · exact ticked_of_other hgrace (accrual_of_other hr howed hcall hgrace) rfl rfl rfl
  · obtain ⟨reports, dropped⟩ := tick_reports_alone hquiet
    obtain ⟨noRecords, noUnits⟩ := ticked_quiet hnone
    rw [noRecords] at reports
    rw [noUnits] at dropped
    obtain ⟨reports, lost⟩ := Prod.mk.inj reports
    exact ⟨⟨reports, lost⟩, Ledger.eq_of accrued debited dropped⟩

end Sys2Proof.Machine

/-! ## Countdowns, unrated booths and saturation at a tick (R13, R16, R36, R40, R42) -/

namespace Sys2Proof.Machine

variable {s t : State} {p q : Position} {x : Change} {b : Booth} {c : Intercept}

/-! ### What accrual leaves of state, countdown and timer -/

/-- What accrual leaves where no countdown and no timer of a booth is moved by it. -/
structure Booth.KeepsCountdowns (b b' : Booth) : Prop where
  state : b'.state = b.state
  callUp : b'.callUp = b.callUp
  grace : b'.grace = b.grace
  timer : b'.timer = b.timer

theorem Booth.keepsCountdowns_accrued (b : Booth) (r : Nat) : b.KeepsCountdowns (b.accrued r) := ⟨rfl, rfl, rfl, rfl⟩

theorem accrual_of_unrated (h : (s.booth p).rate = none) : (s.tickAccrual p).booth = s.booth p := by
  rw [tickAccrual_of_unrated h]
  rfl

/-- Accrual outside CALL and GRACE leaves state and timer (R40). -/
theorem accrual_keeps_other (hcall : (s.booth p).state ≠ .call) (hgrace : (s.booth p).state ≠ .grace) :
    (s.booth p).KeepsCountdowns (s.tickAccrual p).booth := by
  cases hr : (s.booth p).rate with
  | none =>
    rw [accrual_of_unrated hr]
    exact ⟨rfl, rfl, rfl, rfl⟩
  | some held =>
    rw [tickAccrual_of_rated hr]
    unfold Change.accrue
    split
    · exact ⟨rfl, rfl, rfl, rfl⟩
    · have charged := Booth.charged_of_not (b := (s.booth p).counted (s.reselect p held))
        (n := (s.booth p).newUnits (s.reselect p held)) (fun full => full.1.elim hcall hgrace) s.settings.clearDownHold
      have done := (congrArg (fun b : Booth => b.evaluated (s.slot p) s.settings.graceTime) charged).trans
        (Booth.evaluated_of_other (b := (s.booth p).accrued (s.reselect p held)) hcall hgrace _)
      exact done ▸ Booth.keepsCountdowns_accrued (s.booth p) (s.reselect p held)

/-- Accrual that takes no W past 65,535 leaves a booth in GRACE there while no identified card brings credit (R14). -/
theorem accrual_keeps_grace (hgrace : (s.booth p).state = .grace)
    (hcredit : ∀ cr, (s.booth p).present = .yes ∧ (s.booth p).serial.isSome = true → s.credit p = some cr → cr ≤ 0)
    (hunits : s.tickUnits p = 0 ∨ (s.booth p).owed + s.tickUnits p ≤ 65535) :
    (s.booth p).KeepsCountdowns (s.tickAccrual p).booth := by
  cases hr : (s.booth p).rate with
  | none =>
    rw [accrual_of_unrated hr]
    exact ⟨rfl, rfl, rfl, rfl⟩
  | some held =>
    by_cases hnone : s.tickUnits p = 0
    · rw [tickAccrual_of_rated hr, Change.accrue_of_none (tickUnits_of_rated hr ▸ hnone)]
      exact ⟨rfl, rfl, rfl, rfl⟩
    · rw [accrual_grace_stays hr (hunits.resolve_left hnone) hgrace (.inr fun cr hcard hcr =>
        Int.le_trans (hcredit cr hcard hcr) (Int.natCast_nonneg _))]
      exact Booth.keepsCountdowns_accrued ..

/-- The last tick of a grace countdown (R13, R15). -/
theorem ticked_grace_ends (hgrace : (s.booth p).state = .grace) (htimer : (s.booth p).timer = none)
    (hkeeps : (s.booth p).KeepsCountdowns (s.tickAccrual p).booth) (hlast : (s.booth p).grace ≤ 1) :
    (s.ticked p).booth = { (s.tickAccrual p).booth with
        state := .clearing, grace := 0, timer := some (.assert s.settings.clearDownHold) } ∧
      (s.ticked p).records = (s.tickAccrual p).records ++ [.clearDown p .graceExpired] := by
  have counted : s.tickCountdown p = { s.tickAccrual p with
      booth := { (s.tickAccrual p).booth with
        state := .clearing, grace := 0, timer := some (.assert s.settings.clearDownHold) },
      records := (s.tickAccrual p).records ++ [.clearDown p .graceExpired] } := by
    unfold State.tickCountdown Change.countGrace
    rw [if_pos ⟨hgrace, hkeeps.state.trans hgrace⟩, if_pos (hkeeps.grace ▸ hlast)]
  unfold State.ticked
  rw [htimer, counted]
  exact ⟨rfl, rfl⟩

/-- Settles O47. -/
theorem tickMovesGraceAndClearDown : Obligations.TickMovesGraceAndClearDown := by
  intro s p hrun b
  obtain ⟨booth, -⟩ := tick_leaves s
  refine ⟨s.tick, exec_chargeTick hrun, ?_⟩
  rw [booth p]
  have other : b.state ≠ .call → b.state ≠ .grace → (s.ticked p).booth.state = b.state ∧
      (s.ticked p).booth.timer = if b.state = .clearing ∨ (b.state = .fault ∧ b.callUp = true) then
        b.timer.map (ClearDown.move s.settings.clearDownHold) else b.timer := by
    intro hcall hgrace
    obtain ⟨state, callUp, -, timer⟩ := accrual_keeps_other hcall hgrace
    rw [ticked_of_other hgrace rfl state callUp timer]
    exact ⟨state, rfl⟩
  refine ⟨fun hgrace hcredit htimer hunits => ?_, fun hruns => ?_, fun hfault hcall => ?_⟩
  · have keeps := accrual_keeps_grace hgrace hcredit hunits
    refine ⟨fun hlong => ?_, fun hlast => ?_⟩
    · rw [ticked_of_grace hgrace (keeps.state.trans hgrace) (keeps.grace ▸ hlong)]
      refine ⟨keeps.state.trans hgrace, congrArg (· - 1) keeps.grace, keeps.timer.trans htimer, fun hquiet => ?_⟩
      obtain ⟨reports, -⟩ := tick_reports_alone hquiet
      rw [(ticked_quiet ⟨hunits, fun _ => hlong⟩).1] at reports
      obtain ⟨reports, lost⟩ := Prod.mk.inj reports
      exact ⟨reports, lost⟩
    · obtain ⟨ended, records⟩ := ticked_grace_ends hgrace htimer keeps hlast
      rw [ended]
      refine ⟨rfl, rfl, rfl, fun hquiet hroom => ?_⟩
      obtain ⟨reports, -⟩ := tick_reports_alone hquiet
      rw [records, (accrual_quiet hunits).1] at reports
      have room : queued (s.reports, s.lost) (.clearDown p .graceExpired) =
        (s.reports ++ [.clearDown p .graceExpired], s.lost) := if_pos hroom
      obtain ⟨reports, lost⟩ := Prod.mk.inj (reports.trans room)
      exact ⟨lost, reports⟩
  · obtain ⟨state, timer⟩ := other (by rintro h; rcases hruns with hr | ⟨hr, -⟩ <;> exact nomatch h.symm.trans hr)
      (by rintro h; rcases hruns with hr | ⟨hr, -⟩ <;> exact nomatch h.symm.trans hr)
    rw [if_pos hruns] at timer
    refine ⟨state, fun n hn => ?_, fun n hn => ?_⟩
    · rw [timer, hn]
      rfl
    · rw [timer, hn]
      rfl
  · obtain ⟨state, timer⟩ := other (fun h => nomatch h.symm.trans hfault) (fun h => nomatch h.symm.trans hfault)
    rw [if_neg] at timer
    · exact ⟨state.trans hfault, timer⟩
    · rintro (h | ⟨-, h⟩)
      · exact nomatch h.symm.trans hfault
      · exact nomatch h.symm.trans hcall

/-! ### Booths without a rate, and the age step (R24, R25, R42, R78, R145) -/

/-- The loss duration after a tick (R145). -/
theorem Supervisor.tick_eq (u : Supervisor) : u.tick = { u with
    lossDuration := if u.highway = .lost ∨ u.highway = .longLost then min 65535 (u.lossDuration + 1)
      else u.lossDuration } := by
  obtain ⟨highway, _, _, _⟩ := u
  cases highway <;> rfl

/-- The booths of a tick do not look at the tick count (R24, R36). -/
theorem foldl_tickBooth_tickCount (l : List Position) (s : State) (n : Nat) :
    l.foldl (fun s p => s.tickBooth p) { s with tickCount := n } =
      { l.foldl (fun s p => s.tickBooth p) s with tickCount := n } := by
  induction l generalizing s with
  | nil => rfl
  | cons p l ih =>
    have first : ({ s with tickCount := n } : State).tickBooth p = { s.tickBooth p with tickCount := n } := by
      rw [tickBooth_eq, tickBooth_eq]
      rfl
    rw [List.foldl_cons, List.foldl_cons, first, ih]

/-- A tick at a booth with no rate in use moves countdowns only (R42). -/
theorem ticked_of_unrated (h : (s.booth p).rate = none) : (s.booth p).MovedTo (s.ticked p).booth := by
  have moved := movedTo_ticked s p
  rwa [accrual_of_unrated h] at moved

theorem tickStarted_arrears (s : State) : s.tickStarted.arrears = s.arrears := rfl

theorem tick_of_no_age (h : (s.tickCount + 1) % 600 ≠ 0) :
    s.tick = (s.tickStarted.forAll State.tickBooth).tickFlash ((s.tickCount + 1) % 600) := by
  rw [tick_eq, State.tickAge, if_neg h]

/-- A tick that makes no age step leaves the list (R78). -/
theorem tick_arrears (h : (s.tickCount + 1) % 600 ≠ 0) : s.tick.arrears = s.arrears := by
  have kept := (ticks_forAll s.tickStarted).arrears
  rw [tick_of_no_age h, tickFlash_eq]
  generalize s.tickStarted.forAll State.tickBooth = t at *
  exact kept.trans (tickStarted_arrears s)

theorem tickFlash_of_none {n : Nat} (h : n % 5 ≠ 0) : s.tickFlash n = s := if_neg h

/-- The tick that wraps the tick count is a tick that makes no age step, and then the age step (R25, R78, R137). -/
theorem tick_of_wrap (h : (s.tickCount + 1) % 600 = 0) :
    s.tick = ({ ({ s with tickCount := 0 } : State).tick with tickCount := 0, scan := s.tick.scan } : State).ageEntries := by
  have scan : s.tick.scan = { s.scan with flash := !s.scan.flash } := by
    rw [(tick_leaves s).scan, if_pos]
    omega
  have started : s.tickStarted = { s with divider := 0, tickCount := 0, sup := s.sup.tick } := by
    rw [State.tickStarted, h]
  have here : s.tick = (({ s with divider := 0, tickCount := 0, sup := s.sup.tick } : State).forAll
      State.tickBooth).toggleFlash.ageEntries := by
    rw [tick_eq, h, started, State.tickFlash, State.tickAge, if_pos rfl, if_pos rfl]
  have ticks := ticks_forAll { s with divider := 0, tickCount := 0, sup := s.sup.tick }
  have other : ({ s with tickCount := 0 } : State).tick = { ({ s with
      divider := 0, tickCount := 0, sup := s.sup.tick } : State).forAll State.tickBooth with tickCount := 1 } := by
    have one : (({ s with tickCount := 0 } : State).tickCount + 1) % 600 = 1 := rfl
    rw [tick_of_no_age (by rw [one]; decide), one, tickFlash_of_none (by decide)]
    exact foldl_tickBooth_tickCount positions { s with divider := 0, tickCount := 0, sup := s.sup.tick } 1
  rw [scan, here, other]
  generalize ({ s with divider := 0, tickCount := 0, sup := s.sup.tick } : State).forAll State.tickBooth = t at *
  obtain ⟨-, ⟨-, tickCount, scan', -⟩, -⟩ := ticks.rest
  have same : t.toggleFlash = { t with tickCount := 0, scan := { s.scan with flash := !s.scan.flash } } := by
    rw [State.toggleFlash, show t.scan = s.scan from scan', show t.tickCount = 0 from tickCount]
  rw [same]

/-- Settles O45. -/
theorem tickMovesCountsAndLeavesUnratedBooths : Obligations.TickMovesCountsAndLeavesUnratedBooths := by
  intro s hrun
  have leaves := tick_leaves s
  refine ⟨s.tick, exec_chargeTick hrun, leaves.tickCount, leaves.scan, leaves.sup.trans (Supervisor.tick_eq _),
    fun p hrate => ?_, tick_arrears, fun hwrap => ?_⟩
  · have moved := ticked_of_unrated hrate
    rw [leaves.booth p]
    refine ⟨?_, ?_, ?_, ?_, fun hgrace => ?_⟩
    · rw [moved]
      exact hrate
    · rw [moved]
    · rw [moved]
    · rw [moved]
    · rw [ticked_of_other hgrace (accrual_of_unrated hrate) rfl rfl rfl]
      exact ⟨rfl, fun hstill => if_neg hstill⟩
  · have whole := tick_of_wrap hwrap
    have kept : ({ s with tickCount := 0 } : State).tick.arrears = s.arrears :=
      tick_arrears (s := { s with tickCount := 0 }) (by rw [Nat.zero_add]; decide)
    have hexec : exec .chargeTick { s with tickCount := 0 } = .next ({ s with tickCount := 0 } : State).tick :=
      exec_chargeTick hrun
    obtain ⟨-, -, ⟨-, -, settings, -⟩, -, -, -, -, -, -, -, ⟨running, -⟩⟩ := tick_leaves { s with tickCount := 0 }
    generalize ({ s with tickCount := 0 } : State).tick = u at *
    refine ⟨u, hexec, kept, ?_, fun hdistinct => ?_⟩
    · exact congrArg Host.Outcome.next ((State.live_of_running (s := { u with tickCount := 0, scan := s.tick.scan })
        (running.trans hrun) _).trans whole.symm)
    · rw [whole, ageEntries_arrears (by rw [kept]; exact hdistinct)]
      dsimp only
      rw [kept, settings]

end Sys2Proof.Machine

/-! ## One step at every position: frames that are cut, losses and frame ends (R93, R117, R125, R144, R146) -/

namespace Sys2Proof.Machine

variable {s t u : State} {p q : Position} {x : Change} {b : Booth} {c : Intercept} {f : Position → State → State}

/-! ### Steps that look at their position and the settings only -/

/-- What a step makes of the contexts of its position, and the records that it places. -/
structure PositionStep where
  booth : Settings → Position → Booth → Intercept → Booth
  slot : Settings → Position → Booth → Intercept → Intercept
  records : Position → Booth → Intercept → List Report

/-- `f` is the step `k` at every position. -/
def PositionStep.Runs (k : PositionStep) (f : Position → State → State) : Prop :=
  ∀ p s, f p s = (s.withContexts p (k.booth s.settings p (s.booth p) (s.slot p))
    (k.slot s.settings p (s.booth p) (s.slot p))).posts (k.records p (s.booth p) (s.slot p)) 0

/-- The records of a step at the positions of `l`. -/
def PositionStep.recordsAt (k : PositionStep) (s : State) (l : List Position) : List Report :=
  l.flatMap fun q => k.records q (s.booth q) (s.slot q)

/-- The step has run at the positions of `l`, and nothing else has changed. -/
structure PositionStep.RunAt (k : PositionStep) (l : List Position) (s t : State) : Prop where
  rest : SameRest s t
  arrears : t.arrears = s.arrears
  ledger : t.ledger = s.ledger
  booth : ∀ q, t.booth q = if q ∈ l then k.booth s.settings q (s.booth q) (s.slot q) else s.booth q
  slot : ∀ q, t.slot q = if q ∈ l then k.slot s.settings q (s.booth q) (s.slot q) else s.slot q
  reports : (t.reports, t.lost) = (k.recordsAt s l).foldl queued (s.reports, s.lost)

theorem posts_queued (s : State) (rs : List Report) : ((s.posts rs 0).reports, (s.posts rs 0).lost) =
    rs.foldl queued (s.reports, s.lost) := by
  rw [State.posts_eq_queued]

theorem localAt_withContexts (s : State) (p : Position) (b : Booth) (c : Intercept) : LocalAt p s (s.withContexts p b c) :=
  (localAt_setBooth s p b).trans (localAt_setSlot _ p c)

theorem PositionStep.runAt_foldl {k : PositionStep} (hf : k.Runs f) (l : List Position) (hl : l.Nodup) (s : State) :
    k.RunAt l s (l.foldl (fun s p => f p s) s) := by
  induction l generalizing s with
  | nil => exact ⟨SameRest.refl s, rfl, rfl, fun q => by simp, fun q => by simp, rfl⟩
  | cons p l ih =>
    obtain ⟨hp, hl⟩ := List.nodup_cons.mp hl
    obtain ⟨rest, arrears, ledger, booth, slot, reports⟩ := ih hl (f p s)
    have queue := posts_queued (s.withContexts p (k.booth s.settings p (s.booth p) (s.slot p))
      (k.slot s.settings p (s.booth p) (s.slot p))) (k.records p (s.booth p) (s.slot p))
    rw [← hf p s] at queue
    have first : SameRest s (f p s) := by
      rw [hf p s]
      exact sameRest_posts ..
    have settings := first.settings
    have booths : ∀ r, r ≠ p → (f p s).booth r = s.booth r := fun r hr => by
      rw [hf p s, State.posts_booth]
      exact (localAt_withContexts ..).booths r hr
    have slots : ∀ r, r ≠ p → (f p s).slot r = s.slot r := fun r hr => by
      rw [hf p s, State.posts_slot]
      exact (localAt_withContexts ..).slots r hr
    have here : (f p s).booth p = k.booth s.settings p (s.booth p) (s.slot p) ∧
        (f p s).slot p = k.slot s.settings p (s.booth p) (s.slot p) := by
      rw [hf p s, State.posts_booth, State.posts_slot]
      exact ⟨State.withContexts_booth .., State.withContexts_slot ..⟩
    have away : ∀ r ∈ l, r ≠ p := fun r hr h => hp (h ▸ hr)
    rw [List.foldl_cons]
    refine ⟨first.trans rest, arrears.trans ?_, ledger.trans ?_, fun r => ?_, fun r => ?_, ?_⟩
    · rw [hf p s, State.posts_arrears]
      rfl
    · rw [hf p s, State.posts_ledger]
      rfl
    · rw [booth r, settings]
      by_cases hrp : r = p
      · rw [hrp, if_neg hp, if_pos List.mem_cons_self, here.1]
      · rw [booths r hrp, slots r hrp]
        simp [hrp]
    · rw [slot r, settings]
      by_cases hrp : r = p
      · rw [hrp, if_neg hp, if_pos List.mem_cons_self, here.2]
      · rw [booths r hrp, slots r hrp]
        simp [hrp]
    · have records : k.recordsAt (f p s) l = k.recordsAt s l :=
        List.flatMap_congr fun r hr => by rw [booths r (away r hr), slots r (away r hr)]
      rw [reports, records, queue, PositionStep.recordsAt, PositionStep.recordsAt, List.flatMap_cons,
        List.foldl_append]
      rfl

/-- The step has run at every position. -/
structure PositionStep.RunAll (k : PositionStep) (s t : State) : Prop where
  rest : SameRest s t
  arrears : t.arrears = s.arrears
  ledger : t.ledger = s.ledger
  booth : ∀ q, t.booth q = k.booth s.settings q (s.booth q) (s.slot q)
  slot : ∀ q, t.slot q = k.slot s.settings q (s.booth q) (s.slot q)
  reports : (t.reports, t.lost) = (k.recordsAt s positions).foldl queued (s.reports, s.lost)

theorem PositionStep.runAll_forAll {k : PositionStep} (hf : k.Runs f) (s : State) : k.RunAll s (s.forAll f) := by
  obtain ⟨rest, arrears, ledger, booth, slot, reports⟩ := PositionStep.runAt_foldl hf positions positions_nodup s
  exact ⟨rest, arrears, ledger, fun q => (booth q).trans (if_pos (mem_positions q)),
    fun q => (slot q).trans (if_pos (mem_positions q)), reports⟩

/-- Records that find room join the queue in their order (R166). -/
theorem foldl_queued_of_room {rs : List Report} (h : s.reports.length + rs.length ≤ 32) :
    rs.foldl queued (s.reports, s.lost) = (s.reports ++ rs, s.lost) := by
  rw [← posts_queued]
  obtain ⟨reports, lost⟩ := State.posts_reports 0 h
  rw [reports, lost]

theorem slots_of_slot (h : ∀ q, t.slot q = s.slot q) : t.slots = s.slots :=
  Vector.ext fun i hi => h ⟨i, hi⟩

/-! ### LONG LOST (R146) -/

/-- The clear-down of a call as LONG LOST begins (R146). -/
def longLostStep : PositionStep where
  booth settings _ b _ := if b.longLostClears then
      { b with state := .clearing, grace := 0, timer := some (.assert settings.clearDownHold) }
    else b
  slot _ _ _ c := c
  records p b _ := if b.longLostClears then [.clearDown p .highwayLost] else []

theorem longLostStep_runs :
    longLostStep.Runs fun p s => if (s.booth p).longLostClears then s.enterClearing p .highwayLost else s := by
  intro p s
  unfold longLostStep
  dsimp only
  by_cases h : (s.booth p).longLostClears = true
  · rw [if_pos h, if_pos h, if_pos h, ← setBooth_eq_withContexts]
    exact enterClearing_eq s p .highwayLost
  · rw [if_neg h, if_neg h, if_neg h, State.withContexts_self]
    rfl

theorem flatMap_ite_singleton {α β : Type} (l : List α) (c : α → Bool) (r : α → β) :
    (l.flatMap fun a => if c a = true then [r a] else []) = (l.filter c).map r := by
  induction l with
  | nil => rfl
  | cons a l ih =>
    rw [List.flatMap_cons, ih, List.filter_cons]
    split <;> rfl

/-- Settles O39. -/
theorem longLossClearsCallsDown : Obligations.LongLossClearsCallsDown := by
  intro s hrun
  have hexec : exec .longLost s = .next (if s.sup.highway = .lost then s.enterLongLost else s) :=
    congrArg Host.Outcome.next (State.live_of_running hrun _)
  refine ⟨fun hnot => hexec.trans (congrArg Host.Outcome.next (if_neg hnot)), fun hlost hroom => ?_⟩
  intro clears
  have done := PositionStep.runAll_forAll longLostStep_runs
    { s with sup := { s.sup with highway := .longLost, lossTimer := none } }
  rw [if_pos hlost] at hexec
  unfold State.enterLongLost at hexec
  generalize State.forAll _ _ = t at done hexec
  obtain ⟨⟨tables, ⟨-, -, -, sup, -⟩, port⟩, arrears, ledger, booth, slot, reports⟩ := done
  have records : longLostStep.recordsAt { s with sup := { s.sup with highway := .longLost, lossTimer := none } } positions =
      (positions.filter clears).map fun p => .clearDown p .highwayLost := flatMap_ite_singleton ..
  have few : ((positions.filter clears).map fun p => Report.clearDown p .highwayLost).length ≤ 24 := by
    rw [List.length_map]
    exact List.length_filter_le ..
  rw [records, foldl_queued_of_room (Nat.le_trans (Nat.add_le_add_left few _) hroom)] at reports
  obtain ⟨reports, lost⟩ := Prod.mk.inj reports
  refine ⟨t, hexec, tables, slots_of_slot slot, port, arrears, ledger, lost, sup, fun p => ?_, reports⟩
  exact booth p

end Sys2Proof.Machine

/-! ## Frames that are cut, and entry to LOST (R93, R94, R142, R144) -/

namespace Sys2Proof.Machine

variable {s t u : State} {p q : Position} {x : Change} {b : Booth} {c : Intercept}

/-! ### A frame cut (R93, R94) -/

/-- The write that is left unanswered when a frame is cut after `n` byte times (R94). -/
def SlotRecord.unanswered (r : SlotRecord) (p : Position) (n : Nat) : Option (WordAddr × Nat) :=
  if requestOut p ≤ n then
    match r.sent with
    | .write a v => some (a, v)
    | _ => none
  else none

/-- The interception context that the cut leaves (R93, R94). -/
def Intercept.afterCut (c : Intercept) (p : Position) (n : Nat) (b : Booth) : Intercept :=
  match c.record with
  | none => c
  | some r =>
    match r.unanswered p n with
    | some (a, v) => ({ c with record := none } : Intercept).withAccepted r b a v
    | none => { c with
      record := none, held := if ¬ requestOut p ≤ n ∧ r.treatment = .inserted true then none else c.held }

/-- The booth that the cut leaves (R59, R94). -/
def Booth.afterCut (b : Booth) (p : Position) (n graceTime : Nat) (c : Intercept) : Booth :=
  match c.record with
  | none => b
  | some r =>
    match r.unanswered p n with
    | some (a, v) =>
      ({ b with owed := b.owed - (acceptedPair b r a v).2 } : Booth).evaluated (c.afterCut p n b) graceTime
    | none => b

/-- The cut of a frame after `n` byte times (R93). -/
def cutStep (n : Nat) : PositionStep where
  booth settings p b c := b.afterCut p n settings.graceTime c
  slot _ p b c := c.afterCut p n b
  records _ _ _ := []

theorem afterCut_of_none (h : c.record = none) (b : Booth) (p : Position) (n graceTime : Nat) :
    c.afterCut p n b = c ∧ b.afterCut p n graceTime c = b := by
  unfold Booth.afterCut Intercept.afterCut
  rw [h]
  exact ⟨rfl, rfl⟩

theorem afterCut_of_accepted {r : SlotRecord} {n : Nat} {a : WordAddr} {v : Nat} (h : c.record = some r)
    (hr : r.unanswered p n = some (a, v)) (b : Booth) (graceTime : Nat) :
    c.afterCut p n b = ({ c with record := none } : Intercept).withAccepted r b a v ∧
      b.afterCut p n graceTime c = ({ b with owed := b.owed - (acceptedPair b r a v).2 } : Booth).evaluated
        (({ c with record := none } : Intercept).withAccepted r b a v) graceTime := by
  have slot : c.afterCut p n b = ({ c with record := none } : Intercept).withAccepted r b a v := by
    unfold Intercept.afterCut
    rw [h]
    dsimp only
    rw [hr]
  refine ⟨slot, ?_⟩
  unfold Booth.afterCut
  rw [slot, h]
  dsimp only
  rw [hr]

theorem afterCut_of_answered {r : SlotRecord} {n : Nat} (h : c.record = some r) (hr : r.unanswered p n = none) (b : Booth)
    (graceTime : Nat) :
    c.afterCut p n b = { c with
        record := none, held := if ¬ requestOut p ≤ n ∧ r.treatment = .inserted true then none else c.held } ∧
      b.afterCut p n graceTime c = b := by
  unfold Booth.afterCut Intercept.afterCut
  rw [h]
  dsimp only
  rw [hr]
  exact ⟨rfl, rfl⟩

/-- A request that is no write, emitted whole or not, opens no record. -/
theorem SlotRecord.unanswered_of_out {r : SlotRecord} {n : Nat} (h : ¬ requestOut p ≤ n) : r.unanswered p n = none := if_neg h

theorem SlotRecord.unanswered_of_read {r : SlotRecord} {n : Nat} (h : ∀ a v, r.sent ≠ .write a v) :
    r.unanswered p n = none := by
  unfold SlotRecord.unanswered
  split
  · split
    · exact absurd ‹_› (h _ _)
    · rfl
  · rfl

theorem SlotRecord.unanswered_of_write {r : SlotRecord} {n : Nat} {a : WordAddr} {v : Nat} (hout : requestOut p ≤ n)
    (h : r.sent = .write a v) : r.unanswered p n = some (a, v) := by
  unfold SlotRecord.unanswered
  rw [if_pos hout, h]

theorem cutStep_runs (n : Nat) : (cutStep n).Runs fun p s => s.cutSlot n p := by
  intro p s
  unfold cutStep State.cutSlot
  dsimp only
  rw [State.posts_nil]
  cases hr : (s.slot p).record with
  | none =>
    obtain ⟨slot, booth⟩ := afterCut_of_none hr (s.booth p) p n s.settings.graceTime
    rw [booth, slot, State.withContexts_self]
  | some r =>
    dsimp only
    rw [State.onSlot_eq, State.setSlot_eq_change]
    by_cases hout : requestOut p ≤ n
    · rw [if_pos hout]
      have reads (hnone : r.unanswered p n = none) : s.withContexts p ((s.booth p).afterCut p n s.settings.graceTime
          (s.slot p)) ((s.slot p).afterCut p n (s.booth p)) = s.change p (s.rewrite (s.booth p)
            { s.slot p with record := none }) := by
        obtain ⟨slot, booth⟩ := afterCut_of_answered hr hnone (s.booth p) s.settings.graceTime
        rw [booth, slot, if_neg fun h => h.1 hout]
        rfl
      cases hsent : r.sent with
      | null => exact (reads (SlotRecord.unanswered_of_read (by rw [hsent]; nofun))).symm
      | read a => exact (reads (SlotRecord.unanswered_of_read (by rw [hsent]; nofun))).symm
      | write a v =>
        obtain ⟨slot, booth⟩ := afterCut_of_accepted hr (SlotRecord.unanswered_of_write hout hsent) (s.booth p) s.settings.graceTime
        rw [booth, slot]
        exact State.change_openRecord ..
    · obtain ⟨slot, booth⟩ := afterCut_of_answered hr (SlotRecord.unanswered_of_out hout) (s.booth p) s.settings.graceTime
      rw [if_neg hout, booth, slot]
      by_cases hown : r.treatment = .inserted true
      · rw [if_pos hown, if_pos ⟨hout, hown⟩, State.dropHeld, State.onSlot_eq, State.change_slot, State.change_setSlot]
        rfl
      · rw [if_neg hown, if_neg fun h => hown h.2]
        rfl

theorem recordsAt_cutStep (n : Nat) (s : State) (l : List Position) : (cutStep n).recordsAt s l = [] :=
  List.flatMap_eq_nil_iff.mpr fun _ _ => rfl

/-- Settles O33. -/
theorem frameStartCutsTheFrameInProgress : Obligations.FrameStartCutsTheFrameInProgress := by
  intro s cut ⟨hrun, hin⟩
  have hexec : exec (.frameStart cut) s = .next (s.cutFrame cut).beginFrame :=
    congrArg Host.Outcome.next (State.live_of_running hrun _)
  have done := PositionStep.runAll_forAll (cutStep_runs (max cut s.port.byteTime)) s
  unfold State.cutFrame at hexec
  rw [if_pos hin] at hexec
  dsimp only at hexec
  generalize State.forAll _ _ = t at done hexec
  obtain ⟨⟨tables, ⟨-, -, -, sup, ⟨-, -, -, strap⟩, -⟩, port⟩, arrears, ledger, booth, slot, reports⟩ := done
  rw [recordsAt_cutStep] at reports
  obtain ⟨reports, lost⟩ := Prod.mk.inj reports
  refine ⟨_, hexec, ⟨reports, lost⟩, tables, arrears, ledger, ?_, ?_, fun p => ?_⟩
  · unfold State.beginFrame
    dsimp only
    rw [sup]
  · unfold State.beginFrame Port.idle
    dsimp only
    rw [port, strap]
  · intro b c emitted
    have cutBooth : t.booth p = b.afterCut p (max cut s.port.byteTime) s.settings.graceTime c := booth p
    have cutSlot : t.slot p = c.afterCut p (max cut s.port.byteTime) b := slot p
    refine ⟨fun hnone => ?_, fun r hr hout => ?_, fun r hr hout hread => ?_, fun r a v hr hout hwrite => ?_⟩
    · obtain ⟨slot', booth'⟩ := afterCut_of_none hnone b p (max cut s.port.byteTime) s.settings.graceTime
      exact ⟨cutBooth.trans booth', cutSlot.trans slot'⟩
    · obtain ⟨slot', booth'⟩ := afterCut_of_answered hr (SlotRecord.unanswered_of_out hout) b s.settings.graceTime
      refine ⟨cutBooth.trans booth', (cutSlot.trans slot').trans ?_⟩
      simp only [show ¬ requestOut p ≤ max cut s.port.byteTime from hout, not_false_eq_true, true_and]
    · obtain ⟨slot', booth'⟩ := afterCut_of_answered hr (SlotRecord.unanswered_of_read hread) b s.settings.graceTime
      refine ⟨cutBooth.trans booth', (cutSlot.trans slot').trans ?_⟩
      rw [if_neg fun h => h.1 hout]
    · intro prior k c'
      obtain ⟨slot', booth'⟩ := afterCut_of_accepted hr (SlotRecord.unanswered_of_write hout hwrite) b s.settings.graceTime
      have pair : acceptedPair b r a v = (prior, k) := acceptedPair_eq b r a v
      have context : ({ c with record := none } : Intercept).withAccepted r b a v = c' := by
        unfold Intercept.withAccepted SlotRecord.accepted
        rw [pair]
      rw [context, pair] at booth'
      exact ⟨cutBooth.trans booth', cutSlot.trans (slot'.trans context)⟩

/-! ### Entry to LOST (R144) -/

/-- Steps 2 to 5 of R144. -/
def loseStep : PositionStep where
  booth _ _ b c := ({ b with pendingRes := lostPair b c } : Booth).loseCard
  slot _ _ _ c := { c with inFlight := none, held := none, lock := 0 }
  records _ _ _ := []

theorem loseStep_runs : loseStep.Runs State.losePosition := by
  intro p s
  rw [losePosition_eq]
  rfl

/-- The interception context that a cut leaves, where a frame was in progress (R93, R94). -/
def State.cutIntercept (s : State) (n : Nat) (p : Position) : Intercept :=
  if s.port.inProgress then (s.slot p).afterCut p (max n s.port.byteTime) (s.booth p) else s.slot p

/-- The booth that a cut leaves, where a frame was in progress (R94). -/
def State.cutBooth (s : State) (n : Nat) (p : Position) : Booth :=
  if s.port.inProgress then (s.booth p).afterCut p (max n s.port.byteTime) s.settings.graceTime (s.slot p) else s.booth p

/-- What entry to LOST makes of the state, a frame in progress being cut after `n` byte times (R93, R144). -/
structure EntersLost (s : State) (n : Nat) (t : State) : Prop where
  tables : SameTables s t
  arrears : t.arrears = s.arrears
  ledger : t.ledger = s.ledger
  reports : (t.reports, t.lost) = queued (s.reports, s.lost) (.ofRow .highwayLost 0 0)
  sup : t.sup = { s.sup with highway := .lost, lossTimer := some 0, lossDuration := 0 }
  port : t.port = s.port.lose
  slot : ∀ p, t.slot p = { s.cutIntercept n p with inFlight := none, held := none, lock := 0 }
  booth : ∀ p, t.booth p = ({ s.cutBooth n p with
    pendingRes := lostPair (s.cutBooth n p) (s.cutIntercept n p) } : Booth).loseCard

theorem recordsAt_loseStep (s : State) (l : List Position) : loseStep.recordsAt s l = [] :=
  List.flatMap_eq_nil_iff.mpr fun _ _ => rfl

/-- A frame cut, position by position (R93, R94). -/
structure CutsFrame (s : State) (n : Nat) (t : State) : Prop where
  tables : SameTables s t
  arrears : t.arrears = s.arrears
  ledger : t.ledger = s.ledger
  reports : SameReports s t
  sup : t.sup = s.sup
  slot : ∀ p, t.slot p = s.cutIntercept n p
  booth : ∀ p, t.booth p = s.cutBooth n p

theorem cutsFrame (s : State) (n : Nat) : CutsFrame s n (s.cutFrame n) := by
  unfold State.cutFrame
  by_cases hin : s.port.inProgress = true
  · rw [if_pos hin]
    dsimp only
    have done := PositionStep.runAll_forAll (cutStep_runs (max n s.port.byteTime)) s
    generalize State.forAll _ _ = t at done
    obtain ⟨⟨tables, ⟨-, -, -, sup, -⟩, -⟩, arrears, ledger, booth, slot, reports⟩ := done
    rw [recordsAt_cutStep] at reports
    obtain ⟨reports, lost⟩ := Prod.mk.inj reports
    exact ⟨tables, arrears, ledger, ⟨reports, lost⟩, sup, fun p => (slot p).trans (if_pos hin).symm,
      fun p => (booth p).trans (if_pos hin).symm⟩
  · rw [if_neg hin]
    exact ⟨⟨rfl, rfl, rfl, rfl⟩, rfl, rfl, ⟨rfl, rfl⟩, rfl, fun p => (if_neg hin).symm, fun p => (if_neg hin).symm⟩

theorem entersLost (s : State) (n : Nat) : EntersLost s n (s.enterLost n) := by
  have cuts := cutsFrame s n
  unfold State.enterLost
  dsimp only
  generalize s.cutFrame n = t at cuts
  have done := PositionStep.runAll_forAll loseStep_runs t
  generalize t.forAll State.losePosition = u at done
  obtain ⟨tables, arrears, ledger, ⟨reports, lost⟩, sup, slot, booth⟩ := cuts
  obtain ⟨⟨tables', ⟨-, -, -, sup', -⟩, -⟩, arrears', ledger', booth', slot', reports'⟩ := done
  rw [recordsAt_loseStep, reports, lost] at reports'
  obtain ⟨reports', lost'⟩ := Prod.mk.inj reports'
  rw [State.place_eq_queued]
  refine ⟨⟨tables'.1.trans tables.1, tables'.2.1.trans tables.2.1, tables'.2.2.1.trans tables.2.2.1,
    tables'.2.2.2.trans tables.2.2.2⟩, arrears'.trans arrears, ledger'.trans ledger, ?_, ?_, rfl, fun p => ?_, fun p => ?_⟩
  · rw [← reports', ← lost']
  · dsimp only
    rw [sup', sup]
  · refine (slot' p).trans ?_
    rw [slot p]
    rfl
  · refine (booth' p).trans ?_
    rw [booth p, slot p]
    rfl

/-! ### The frame timer (R142) -/

/-- The write that a cut counts as accepted, opened as its in-flight record (R94). -/
def State.cutOpens (s : State) (n : Nat) (p : Position) : Option InFlight :=
  match (s.slot p).record with
  | some r => if s.port.inProgress then
      (r.unanswered p (max n s.port.byteTime)).map fun x => r.accepted (s.booth p) x.1 x.2 else none
  | none => none

/-- What the cut of a frame leaves of W, state and countdown, and of the in-flight record (R59, R94). -/
theorem cut_eq (s : State) (n : Nat) (p : Position) :
    (s.cutIntercept n p).inFlight = (s.cutOpens n p).or (s.slot p).inFlight ∧
    (s.cutIntercept n p).record = (if s.port.inProgress then none else (s.slot p).record) ∧
    s.cutBooth n p = (match s.cutOpens n p with
      | some x => ({ s.booth p with owed := (s.booth p).owed - x.k } : Booth).evaluated
          { s.slot p with inFlight := s.cutOpens n p } s.settings.graceTime
      | none => s.booth p) := by
  unfold State.cutIntercept State.cutBooth
  by_cases hin : s.port.inProgress = true
  · rw [if_pos hin, if_pos hin, if_pos hin]
    cases hr : (s.slot p).record with
    | none =>
      have opens : s.cutOpens n p = none := by
        unfold State.cutOpens
        rw [hr]
      obtain ⟨slot, booth⟩ := afterCut_of_none hr (s.booth p) p (max n s.port.byteTime) s.settings.graceTime
      rw [opens, slot, booth]
      exact ⟨rfl, hr, rfl⟩
    | some r =>
      have opens : s.cutOpens n p =
          (r.unanswered p (max n s.port.byteTime)).map fun x => r.accepted (s.booth p) x.1 x.2 := by
        unfold State.cutOpens
        rw [hr]
        exact if_pos hin
      cases hu : r.unanswered p (max n s.port.byteTime) with
      | none =>
        obtain ⟨slot, booth⟩ := afterCut_of_answered hr hu (s.booth p) s.settings.graceTime
        rw [opens, hu, slot, booth]
        exact ⟨rfl, rfl, rfl⟩
      | some x =>
        obtain ⟨slot, booth⟩ := afterCut_of_accepted (a := x.1) (v := x.2) hr hu (s.booth p) s.settings.graceTime
        rw [opens, hu, slot, booth]
        exact ⟨rfl, rfl, rfl⟩
  · rw [if_neg hin, if_neg hin, if_neg hin]
    have opens : s.cutOpens n p = none := by
      unfold State.cutOpens
      split
      · exact if_neg hin
      · rfl
    rw [opens]
    exact ⟨rfl, rfl, rfl⟩

end Sys2Proof.Machine

/-! ## The frame timer and the end of a frame (R117, R125, R142 to R147, R149) -/

namespace Sys2Proof.Machine

variable {s t u : State} {p q : Position} {x : Change} {b : Booth} {c : Intercept}

/-- An accepted write, with its prior balance and covered units as R58 and R59 tell them. -/
theorem SlotRecord.accepted_eq (r : SlotRecord) (b : Booth) (a : WordAddr) (v : Nat) : r.accepted b a v =
    { origin := r.origin, word := a, value := v, frames := 0, prior := if a = 4 then b.known else none,
      k := if a = 4 then
          (match b.known with
            | none => 0
            | some n => if r.origin = .own then n - v else if r.treatment = .converted then 0 else min b.owed (n - v))
        else 0 } :=
  congrArg (fun y : Option Nat × Nat => ({
    origin := r.origin, word := a, value := v, prior := y.1, k := y.2, frames := 0 } : InFlight)) (acceptedPair_eq b r a v)

/-- What the cut of a frame and an evaluation leave of a booth (R59, R94). -/
theorem cutBooth_frame (s : State) (n : Nat) (p : Position) : ∃ owed state grace, s.cutBooth n p =
    { s.booth p with owed := owed, state := state, grace := grace } := by
  rw [(cut_eq s n p).2.2]
  split
  · obtain ⟨_, _, moved⟩ := ({ s.booth p with owed := (s.booth p).owed - InFlight.k ‹InFlight› } : Booth).evaluated_frame
      { s.slot p with inFlight := s.cutOpens n p } s.settings.graceTime
    exact ⟨_, _, _, moved⟩
  · exact ⟨_, _, _, rfl⟩

/-- A booth whose highway is lost keeps its serial as the one expected (R144). -/
theorem Booth.loseCard_eq (b : Booth) : b.loseCard = if b.present = .yes then { b with
      expected := (match b.serialHigh, b.serialLow with
        | some h, some l => some (h * 65536 + l)
        | _, _ => b.expected),
      serialHigh := none, serialLow := none, known := none }
    else b := by
  unfold Booth.loseCard Booth.serial
  cases b.serialHigh with
  | none => rfl
  | some h => cases b.serialLow <;> rfl

theorem exec_frameTimeout (hrun : s.running) (n : Nat) : exec (.frameTimeout n) s =
    .next (if s.sup.frameTimer = none then s else s.expireFrameTimer n) :=
  congrArg Host.Outcome.next (State.live_of_running hrun _)

/-- Settles O38. -/
theorem frameTimeoutLosesTheHighway : Obligations.FrameTimeoutLosesTheHighway := by
  intro s n hrun
  have hexec := exec_frameTimeout hrun n
  refine ⟨fun hstopped => ?_, fun htimer hnot => ?_, fun htimer hrunning hroom => ?_⟩
  · rw [hexec, if_pos hstopped]
  · rw [hexec, if_neg htimer]
    exact congrArg Host.Outcome.next (if_neg hnot)
  · rw [if_neg htimer, State.expireFrameTimer, if_pos hrunning] at hexec
    have lost := entersLost { s with sup := { s.sup with frameTimer := some Config.frameTimeoutPeriods } } n
    generalize State.enterLost _ n = t at *
    obtain ⟨tables, arrears, ledger, reports, sup, port, slot, booth⟩ := lost
    obtain ⟨reports, lost⟩ := Prod.mk.inj (reports.trans (if_pos hroom))
    refine ⟨t, hexec, tables, arrears, ledger, lost, reports, sup, port, fun p => ?_⟩
    intro b c emitted unanswered opened cut pendingRes
    obtain ⟨inFlight, record, left⟩ := cut_eq s n p
    have opens : s.cutOpens n p = opened := by
      unfold State.cutOpens SlotRecord.unanswered
      dsimp only [opened, unanswered, c]
      cases (s.slot p).record with
      | none => rfl
      | some r =>
        obtain ⟨origin, sent, treatment⟩ := r
        cases hin : s.port.inProgress with
        | false => rfl
        | true =>
          by_cases hout : requestOut p ≤ max n s.port.byteTime
          · have hemitted : emitted = true := decide_eq_true hout
            rw [hemitted]
            dsimp only
            rw [if_pos hout]
            cases sent with
            | null => rfl
            | read a => rfl
            | write a v => exact congrArg some (SlotRecord.accepted_eq ..)
          · have hemitted : emitted = false := decide_eq_false hout
            rw [hemitted]
            dsimp only
            rw [if_neg hout]
            rfl
    have cut_eq : s.cutBooth n p = cut := by
      rw [left, opens] <;> rfl
    obtain ⟨owed, state, grace, frame⟩ := cutBooth_frame s n p
    rw [cut_eq] at frame
    have res : cut.pendingRes = b.pendingRes := by rw [frame]
    have pair : lostPair cut (s.cutIntercept n p) = pendingRes := by
      unfold lostPair
      rw [inFlight, opens, res]
      dsimp only [pendingRes]
      cases opened.or c.inFlight with
      | none => rfl
      | some x =>
        dsimp only
        by_cases hk : x.word = 4 ∧ 0 < x.k
        · rw [if_pos hk, if_pos hk]
          exact if_pos hk.2
        · rw [if_neg hk, if_neg hk]
    refine ⟨(slot p).trans ?_, (booth p).trans ?_⟩
    · exact congrArg (fun r => ({ inFlight := none, held := none, lock := 0, record := r } : Intercept)) record
    · have here : ({ s.cutBooth n p with pendingRes := lostPair (s.cutBooth n p) (s.cutIntercept n p) } : Booth) =
          { cut with pendingRes := pendingRes } := by rw [cut_eq, pair]
      refine (congrArg Booth.loseCard here).trans ((Booth.loseCard_eq _).trans ?_)
      rw [frame] <;> rfl

end Sys2Proof.Machine

/-! ## Debts that leave a booth, wherever they go (R9, R70, R71) -/

namespace Sys2Proof.Machine

variable {s t u : State} {p q r : Position} {x : Change} {b : Booth} {c : Intercept}

/-! ### A direct transfer step by step (R71) -/

/-- The change by `n` units added to W, what passes 65,535 being dropped (R40). -/
def Change.addOwed (x : Change) (p : Position) (n : Nat) : Change := { x with
  booth := { x.booth with owed := min 65535 (x.booth.owed + n) },
  records := x.records ++ (if 0 < x.booth.overflow n then [.unitsDropped p (x.booth.overflow n) .saturated] else []),
  dropped := x.dropped + x.booth.overflow n }

/-- The change by the pair of a direct transfer at the booth that takes it (R71). -/
def Change.transferPair (x : Change) (r : Position) (pair : Option Pair) : Change :=
  match pair with
  | none => x
  | some y =>
    match x.booth.pendingRes, x.booth.known with
    | some _, _ => { x with records := x.records ++ [.unitsDropped r y.k .unresolved], dropped := x.dropped + y.k }
    | none, some n => { x.addOwed r (y.extra n) with debited := (x.addOwed r (y.extra n)).debited + (y.k - y.extra n) }
    | none, none => { x with booth := { x.booth with pendingRes := some y } }

/-- The change by the clear-down of a booth whose W saturated (R15, R40). -/
def Change.clearSaturated (x : Change) (p : Position) (hold : Nat) : Change :=
  if x.booth.state = .call ∨ x.booth.state = .grace then
    { x with booth := { x.booth with state := .clearing, grace := 0, timer := some (.assert hold) },
             records := x.records ++ [.clearDown p .saturated] }
  else x

theorem State.change_addOwed_all (n : Nat) : (s.change p x).addOwed p n = s.change p (x.addOwed p n) := by
  unfold State.addOwed Change.addOwed Booth.overflow
  rw [State.change_booth]
  dsimp only
  by_cases h : x.booth.owed + n ≤ 65535
  · rw [if_pos h, Nat.sub_eq_zero_of_le h, Nat.min_eq_right h, if_neg (Nat.lt_irrefl 0), List.append_nil, State.onBooth_eq,
      State.change_booth, State.change_setBooth]
    rfl
  · have full := Nat.lt_of_not_le h
    rw [if_neg h, Nat.min_eq_left (Nat.le_of_lt full), if_pos (Nat.sub_pos_of_lt full), State.onBooth_eq,
      State.change_booth, State.change_setBooth, State.change_dropUnits]

theorem State.change_transferPair (pair : Option Pair) :
    (s.change r x).transferPair r pair = s.change r (x.transferPair r pair) := by
  unfold State.transferPair Change.transferPair
  cases pair with
  | none => rfl
  | some y =>
    dsimp only
    rw [State.change_booth]
    cases x.booth.pendingRes with
    | some z =>
      dsimp only
      rw [State.change_dropUnits]
    | none =>
      obtain ⟨known, hknown⟩ : ∃ known, x.booth.known = known := ⟨_, rfl⟩
      rw [hknown]
      cases known with
      | none =>
        dsimp only
        rw [State.onBooth_eq, State.change_booth, State.change_setBooth, hknown]
      | some n =>
        dsimp only
        rw [State.change_addOwed_all, State.change_addDebited]

theorem State.change_clearSaturated :
    (s.change p x).clearSaturated p = s.change p (x.clearSaturated p s.settings.clearDownHold) := by
  unfold State.clearSaturated Change.clearSaturated
  rw [State.change_booth, State.change_enterClearing]
  split <;> rfl

/-- The change by a direct transfer from `q` to `r`, saturation included (R71). -/
def Change.transfer (x : Change) (q r : Position) (hold graceTime serial n : Nat) (pair : Option Pair) (full : Bool)
    (aux : Nat) : Change :=
  let y := (({ x with records := x.records ++ [.opened q serial n pair] ++ [.collected r serial n aux] } : Change).addOwed r
    n).transferPair r pair
  let z := if full then y.clearSaturated r hold else y
  { z with booth := z.booth.evaluated z.slot graceTime }

theorem State.transfer_eq_change (s : State) (q r : Position) (serial n : Nat) (pair : Option Pair) :
    s.transfer q r serial n pair = s.change r ((s.rewrite (s.booth r) (s.slot r)).transfer q r s.settings.clearDownHold
      s.settings.graceTime serial n pair (s.saturates r (n + s.extraAt r pair)) (s.handedK r pair)) := by
  have placed := (congrArg (fun t : State => (t.place (.opened q serial n pair)).place
    (.collected r serial n (s.handedK r pair))) (State.change_self s r))
  rw [State.change_place, State.change_place] at placed
  unfold State.transfer Change.transfer
  dsimp only
  rw [placed, State.change_addOwed_all, State.change_transferPair, State.change_clearSaturated]
  split
  · rw [State.change_evaluate]
  · rw [State.change_evaluate]

/-! ### FAULT outlasts what others send (R18, R71) -/

theorem Change.transferPair_state (x : Change) (r : Position) (pair : Option Pair) :
    (x.transferPair r pair).booth.state = x.booth.state := by
  unfold Change.transferPair
  split
  · rfl
  split <;> rfl

/-- A booth in FAULT stays there when it takes a direct transfer. -/
theorem Change.transfer_fault (h : x.booth.state = .fault) (q r : Position) (hold graceTime serial n : Nat)
    (pair : Option Pair) (full : Bool) (aux : Nat) :
    (x.transfer q r hold graceTime serial n pair full aux).booth.state = .fault := by
  have taken : ((({ x with records := x.records ++ [.opened q serial n pair] ++ [.collected r serial n aux] } :
      Change).addOwed r n).transferPair r pair).booth.state = .fault := (Change.transferPair_state ..).trans h
  have still (y : Change) (hy : y.booth.state = .fault) : y.clearSaturated r hold = y := by
    unfold Change.clearSaturated
    rw [hy]
    exact if_neg nofun
  unfold Change.transfer
  dsimp only
  rw [still _ taken, ite_self, Booth.evaluated_of_other (by rw [taken]; nofun) (by rw [taken]; nofun)]
  exact taken

/-! ### Debts sent out (R9, R70) -/

/-- Where a debt goes, and what it does there. -/
structure Sending where
  position : Position
  change : Change

/-- The change by a debt that leaves `p` (R9, R70). -/
def State.sending (s : State) (p : Position) (debt : Option Nat) (n : Nat) (pair : Option Pair) : Sending :=
  match (if n = 0 ∧ pair = none then none else debt.bind fun serial => (s.holder serial).map fun r => (serial, r)) with
  | some (serial, r) => {
      position := r
      change := (s.rewrite (s.booth r) (s.slot r)).transfer p r s.settings.clearDownHold s.settings.graceTime serial n pair
        (s.saturates r (n + s.extraAt r pair)) (s.handedK r pair) }
  | none => { position := p, change := (s.rewrite (s.booth p) (s.slot p)).depart p debt n pair }

theorem sendOut_eq_change (s : State) (p : Position) (debt : Option Nat) (n : Nat) (pair : Option Pair) :
    s.sendOut p debt n pair = s.change (s.sending p debt n pair).position (s.sending p debt n pair).change := by
  have unclaimed (h : ∀ serial, debt = some serial → ¬ (n = 0 ∧ pair = none) → s.holder serial = none) :
      s.sendOut p debt n pair = s.change p ((s.rewrite (s.booth p) (s.slot p)).depart p debt n pair) := by
    refine ((congrArg (fun t : State => t.sendOut p debt n pair) (State.change_self s p)).trans
      (State.change_sendOut debt n pair fun serial hdebt howed q => ?_))
    rw [← State.change_self]
    exact Bool.eq_false_iff.mpr (List.find?_eq_none.mp (h serial hdebt howed) q (mem_positions q))
  unfold State.sending
  by_cases hnothing : n = 0 ∧ pair = none
  · rw [if_pos hnothing]
    exact unclaimed fun _ _ h => absurd hnothing h
  · rw [if_neg hnothing]
    cases debt with
    | none => exact unclaimed fun _ h => nomatch h
    | some serial =>
      cases hr : s.holder serial with
      | none =>
        simp only [Option.bind_some, hr, Option.map_none]
        refine unclaimed fun m hm _ => ?_
        obtain rfl := Option.some.inj hm
        exact hr
      | some r =>
        simp only [Option.bind_some, hr, Option.map_some]
        exact (sendOut_transfers hnothing hr p).trans (State.transfer_eq_change ..)

theorem sending_fault (p : Position) (debt : Option Nat) (n : Nat) (pair : Option Pair) :
    (s.booth (s.sending p debt n pair).position).state = .fault → (s.sending p debt n pair).change.booth.state = .fault := by
  unfold State.sending
  split
  · exact fun h => Change.transfer_fault (x := s.rewrite (s.booth _) (s.slot _)) h ..
  · exact fun h => h

/-- A booth in FAULT stays there whatever another sends (R18, R71). -/
theorem sendOut_fault (hq : (s.booth q).state = .fault) (p : Position) (debt : Option Nat) (n : Nat) (pair : Option Pair) :
    ((s.sendOut p debt n pair).booth q).state = .fault := by
  rw [sendOut_eq_change]
  by_cases h : q = (s.sending p debt n pair).position
  · rw [h, State.change_booth]
    exact sending_fault p debt n pair (h ▸ hq)
  · rw [(localAt_change ..).booths q h]
    exact hq

/-! ### What does not look at the supervisor -/

/-- `s` with another supervisor. -/
def State.withSup (s : State) (v : Supervisor) : State := { s with sup := v }

theorem place_withSup (s : State) (v : Supervisor) (r : Report) : (s.withSup v).place r = (s.place r).withSup v := by
  rw [State.place_eq_queued, State.place_eq_queued]
  rfl

theorem placeIf_withSup (s : State) (v : Supervisor) (c : Bool) (r : Report) :
    (s.withSup v).placeIf c r = (s.placeIf c r).withSup v := by
  rw [State.placeIf_eq_posts, State.placeIf_eq_posts, State.posts_eq_queued, State.posts_eq_queued]
  rfl

theorem sendOut_withSup (s : State) (v : Supervisor) (p : Position) (debt : Option Nat) (n : Nat) (pair : Option Pair) :
    (s.withSup v).sendOut p debt n pair = (s.sendOut p debt n pair).withSup v := by
  rw [sendOut_eq_change, sendOut_eq_change]
  rfl

theorem enterFault_withSup (s : State) (v : Supervisor) (p : Position) :
    (s.withSup v).enterFault p = (s.enterFault p).withSup v := by
  have sent (t : State) (b : Booth) (c : Intercept) (debt : Option Nat) (n : Nat) (pair : Option Pair) (d : Bool)
      (r : Report) : ((((t.withSup v).setBooth p b).setSlot p c).sendOut p debt n pair).placeIf d r =
        ((((t.setBooth p b).setSlot p c).sendOut p debt n pair).placeIf d r).withSup v := by
    rw [← placeIf_withSup, ← sendOut_withSup]
    rfl
  rw [enterFault_out, enterFault_out, place_withSup]
  exact sent ..

theorem declareFault_withSup (s : State) (v : Supervisor) (p : Position) :
    (s.withSup v).declareFault p = (s.declareFault p).withSup v := by
  unfold State.declareFault
  rw [place_withSup, enterFault_withSup]
  by_cases h : (s.booth p).state = .fault
  · rw [if_pos h]
    exact if_pos h
  · rw [if_neg h]
    exact if_neg h

theorem timeOut_withSup (p : Position) (s : State) (v : Supervisor) :
    (s.withSup v).timeOut p = (s.timeOut p).withSup v := by
  unfold State.timeOut
  rw [declareFault_withSup]
  by_cases h : ((s.slot p).inFlight.any fun r => Config.writeTimeoutFrames ≤ r.frames) = true
  · rw [if_pos h]
    exact if_pos h
  · rw [if_neg h]
    exact if_neg h

theorem lowerLock_withSup (p : Position) (s : State) (v : Supervisor) :
    (s.withSup v).lowerLock p = (s.lowerLock p).withSup v := by
  unfold State.lowerLock
  dsimp only
  rw [apply_ite (fun t : State => t.withSup v), apply_ite (fun t : State => t.withSup v), ← place_withSup]
  rfl

theorem countFrame_withSup (p : Position) (s : State) (v : Supervisor) :
    (s.withSup v).countFrame p = (s.countFrame p).withSup v := rfl

theorem forAll_withSup {f : Position → State → State} (hf : ∀ p s v, f p (s.withSup v) = (f p s).withSup v) (s : State)
    (v : Supervisor) : (s.withSup v).forAll f = (s.forAll f).withSup v := by
  unfold State.forAll
  generalize positions = l
  induction l generalizing s with
  | nil => rfl
  | cons p l ih => rw [List.foldl_cons, List.foldl_cons, hf, ih]

end Sys2Proof.Machine

/-! ## The end of a frame (R92, R117, R125, R143, R147, R149) -/

namespace Sys2Proof.Machine

variable {s t u : State} {p q : Position} {x : Change} {b : Booth} {c : Intercept}

/-! ### Counts at a frame end (R117, R125) -/

/-- A lock lowered at a frame end (R117). -/
def lowerStep : PositionStep where
  booth _ _ b _ := b
  slot _ _ _ c := { c with lock := c.lock - 1 }
  records p _ c := if decide (c.lock = 1) = true then [.atPosition .lockExpired p] else []

theorem lowerStep_runs : lowerStep.Runs State.lowerLock := by
  intro p s
  unfold lowerStep State.lowerLock
  simp only [decide_eq_true_eq]
  by_cases hzero : (s.slot p).lock = 0
  · have same : ({ s.slot p with lock := (s.slot p).lock - 1 } : Intercept) = s.slot p := by
      rw [show (s.slot p).lock - 1 = (s.slot p).lock by rw [hzero]]
    rw [if_pos hzero, same, if_neg (by rw [hzero]; nofun), State.withContexts_self]
    rfl
  · have written : s.onSlot p (fun c => { c with lock := (s.slot p).lock - 1 }) =
        s.withContexts p (s.booth p) { s.slot p with lock := (s.slot p).lock - 1 } := by
      rw [State.withContexts, State.setBooth_booth]
      rfl
    rw [if_neg hzero, written]
    split <;> rfl

/-- The frames since ACCEPTED counted at a frame end, and the slot record given up (R105, R125). -/
def Intercept.frameCounted (c : Intercept) : Intercept :=
  { c with inFlight := c.inFlight.map fun x => { x with frames := min 16 (x.frames + 1) }, record := none }

def countStep : PositionStep where
  booth _ _ b _ := b
  slot _ _ _ c := c.frameCounted
  records _ _ _ := []

theorem countStep_runs : countStep.Runs State.countFrame := by
  intro p s
  refine (Eq.trans ?_ (State.posts_nil _).symm)
  unfold countStep
  dsimp only
  rw [State.withContexts, State.setBooth_booth]
  rfl

/-- The port once a frame is complete (R90, R174). -/
def Port.closed (port : Port) (trailer : TenBytes) : Port :=
  { port with byteTime := max port.byteTime 152, inProgress := false, downTrailer := some trailer }

/-- The state at a frame end once locks and frames have been counted (R90, R117, R125). -/
def State.frameCounted (s : State) (trailer : TenBytes) : State :=
  (({ s with port := s.port.closed trailer } : State).forAll State.lowerLock).forAll State.countFrame

theorem exec_frameEnd (h : s.taking) (trailer : TenBytes) : exec (.frameEnd trailer) s =
    .next ((s.frameCounted trailer).forAll State.timeOut).completeFrame :=
  congrArg Host.Outcome.next (State.inFrame_of_taking h _)

theorem frameCounted_withSup (s : State) (v : Supervisor) (trailer : TenBytes) :
    (s.withSup v).frameCounted trailer = (s.frameCounted trailer).withSup v := by
  unfold State.frameCounted
  rw [← forAll_withSup countFrame_withSup, ← forAll_withSup lowerLock_withSup]
  rfl

/-- What the counts of a frame end make of the state. -/
structure CountsFrame (s : State) (trailer : TenBytes) (t : State) : Prop where
  rest : SameRest { s with port := s.port.closed trailer } t
  arrears : t.arrears = s.arrears
  ledger : t.ledger = s.ledger
  booth : ∀ p, t.booth p = s.booth p
  slot : ∀ p, t.slot p = ({ s.slot p with lock := (s.slot p).lock - 1 } : Intercept).frameCounted
  reports : (t.reports, t.lost) = ((positions.filter fun p => (s.slot p).lock = 1).map fun p =>
    Report.atPosition .lockExpired p).foldl queued (s.reports, s.lost)

theorem countsFrame (s : State) (trailer : TenBytes) : CountsFrame s trailer (s.frameCounted trailer) := by
  have lowered := PositionStep.runAll_forAll lowerStep_runs { s with port := s.port.closed trailer }
  unfold State.frameCounted
  generalize State.forAll _ State.lowerLock = t at lowered
  have counted := PositionStep.runAll_forAll countStep_runs t
  generalize t.forAll State.countFrame = u at counted
  obtain ⟨rest, arrears, ledger, booth, slot, reports⟩ := lowered
  obtain ⟨rest', arrears', ledger', booth', slot', reports'⟩ := counted
  have none : countStep.recordsAt t positions = [] := List.flatMap_eq_nil_iff.mpr fun _ _ => rfl
  have locks : lowerStep.recordsAt { s with port := s.port.closed trailer } positions =
      (positions.filter fun p => (s.slot p).lock = 1).map fun p => Report.atPosition .lockExpired p :=
    flatMap_ite_singleton ..
  rw [none] at reports'
  rw [locks] at reports
  refine ⟨rest.trans rest', arrears'.trans arrears, ledger'.trans ledger, fun p => (booth' p).trans (booth p),
    fun p => (slot' p).trans ?_, reports'.trans reports⟩
  rw [slot p]
  rfl

/-! ### Restoration (R143, R147) -/

/-- The supervisor once a complete frame has brought it to RUNNING (R143, R147). -/
def Supervisor.restored (u : Supervisor) : Supervisor :=
  match u.highway with
  | .running => u
  | .waiting => { u with highway := .running }
  | .lost | .longLost => { u with highway := .running, lossTimer := none }

/-- The record of a restoration (R147). -/
def Supervisor.restoreRecords (u : Supervisor) : List Report :=
  match u.highway with
  | .running | .waiting => []
  | .lost | .longLost => [.ofRow .highwayRestored 0 u.lossDuration]

/-- The state once a complete frame has brought the highway to RUNNING (R143, R147). -/
def State.restored (s : State) : State := (s.posts s.sup.restoreRecords 0).withSup s.sup.restored

theorem Supervisor.restored_frameTimer (v : Supervisor) : v.restored.frameTimer = v.frameTimer := by
  unfold Supervisor.restored
  split <;> rfl

/-- Outside RUNNING a complete frame restores the highway, which an expired frame timer then loses again (R142). -/
theorem completeFrame_of_not_running (h : s.sup.highway ≠ .running) : s.completeFrame =
    if s.restored.sup.expired = true then s.restored.enterLost 0 else s.restored := by
  unfold State.completeFrame State.restored Supervisor.restored Supervisor.restoreRecords
  cases hw : s.sup.highway with
  | running => exact absurd hw h
  | waiting => rfl
  | lost =>
    dsimp only
    rw [State.place_eq_posts, (sameRest_posts ..).2.1.2.2.2.1]
    rfl
  | longLost =>
    dsimp only
    rw [State.place_eq_posts, (sameRest_posts ..).2.1.2.2.2.1]
    rfl

theorem completeFrame_eq (s : State) : s.completeFrame =
    if s.sup.highway ≠ .running ∧ s.sup.frameTimer = some 24576 then s.restored.enterLost 0 else s.restored := by
  by_cases h : s.sup.highway = .running
  · have records : s.sup.restoreRecords = [] := by rw [Supervisor.restoreRecords, h]
    have kept : s.sup.restored = s.sup := by rw [Supervisor.restored, h]
    rw [if_neg fun hnot => hnot.1 h, State.restored, records, kept]
    unfold State.completeFrame
    rw [h]
    rfl
  · have expired : s.restored.sup.expired = true ↔ s.sup.highway ≠ .running ∧ s.sup.frameTimer = some 24576 := by
      have timer : s.restored.sup.frameTimer = s.sup.frameTimer := Supervisor.restored_frameTimer _
      unfold Supervisor.expired
      rw [decide_eq_true_eq, timer]
      exact (and_iff_right h).symm
    rw [completeFrame_of_not_running h]
    exact if_congr expired rfl rfl

/-- No record stands at its last frame: none times out (R149). -/
def State.NoneTimesOut (s : State) : Prop := ∀ p x, (s.slot p).inFlight = some x → x.frames + 1 < 16

theorem forAll_of_still {f : Position → State → State} (h : ∀ p, f p s = s) : s.forAll f = s := by
  unfold State.forAll
  generalize positions = l
  induction l with
  | nil => rfl
  | cons p l ih => rw [List.foldl_cons, h p, ih]

theorem timeOut_of_none (h : s.NoneTimesOut) (trailer : TenBytes) :
    (s.frameCounted trailer).forAll State.timeOut = s.frameCounted trailer := by
  refine forAll_of_still fun p => if_neg ?_
  rw [(countsFrame s trailer).slot p]
  unfold Intercept.frameCounted
  dsimp only
  cases hc : (s.slot p).inFlight with
  | none => nofun
  | some x =>
    have early := h p x hc
    simp only [Option.map_some, Option.any_some, decide_eq_true_eq]
    show ¬ 16 ≤ min 16 (x.frames + 1)
    omega

/-! ### Write timeouts (R149, R151, R152) -/

theorem otherSlots_declareFault (s : State) (q : Position) : OtherSlots q s (s.declareFault q) := by
  intro p hp
  unfold State.declareFault
  split
  · rw [State.onSlot_eq, State.slot_setSlot_of_ne _ hp, State.place_slot]
  · rw [enterFault_out, State.placeIf_slot, slot_sendOut, State.slot_setSlot_of_ne _ hp, State.setBooth_slot,
      State.place_slot]

/-- A position in FAULT with no record held stays so at the faults of others (R18, R152). -/
theorem declareFault_keeps (hp : (s.booth p).state = .fault) (hq : q ≠ p) : ((s.declareFault q).booth p).state = .fault := by
  have away : p ≠ q := fun h => hq h.symm
  unfold State.declareFault
  split
  · rw [State.onSlot_eq, State.setSlot_booth, State.place_booth]
    exact hp
  · rw [enterFault_out, State.placeIf_booth]
    refine sendOut_fault ?_ ..
    rw [State.setSlot_booth, State.booth_setBooth_of_ne _ away, State.place_booth]
    exact hp

theorem declareFault_leaves (s : State) (p : Position) :
    ((s.declareFault p).booth p).state = .fault ∧ ((s.declareFault p).slot p).inFlight = none := by
  by_cases h : (s.booth p).state = .fault
  · unfold State.declareFault
    rw [if_pos h, State.onSlot_eq, State.setSlot_booth, State.place_booth, State.slot_setSlot_self]
    exact ⟨h, rfl⟩
  · obtain ⟨booth, slot⟩ := enterFault_position s p
    unfold State.declareFault
    rw [if_neg h, booth, slot]
    exact ⟨rfl, rfl⟩

theorem timeOut_of_early (h : ((s.slot p).inFlight.any fun r => Config.writeTimeoutFrames ≤ r.frames) = false) :
    s.timeOut p = s := if_neg (Bool.eq_false_iff.mp h)

theorem sameRest_timeOut (q : Position) (s : State) : SameRest s (s.timeOut q) := by
  unfold State.timeOut
  split
  · exact sameRest_declareFault ..
  · exact SameRest.refl s

theorem otherSlots_timeOut (s : State) (q : Position) : OtherSlots q s (s.timeOut q) := by
  unfold State.timeOut
  split
  · exact otherSlots_declareFault s q
  · exact fun _ _ => rfl

/-- A position is in FAULT and holds no record. -/
def State.faultedAt (s : State) (p : Position) : Prop := (s.booth p).state = .fault ∧ (s.slot p).inFlight = none

theorem timeOut_keeps (h : s.faultedAt p) (q : Position) : (s.timeOut q).faultedAt p := by
  by_cases hq : q = p
  · rw [hq, timeOut_of_early (by rw [h.2]; rfl)]
    exact h
  · refine ⟨?_, (congrArg Intercept.inFlight (otherSlots_timeOut s q p fun heq => hq heq.symm)).trans h.2⟩
    unfold State.timeOut
    split
    · exact declareFault_keeps h.1 hq
    · exact h.1

/-- A record that stands at its last frame when the timeouts come makes a reader fault (R149). -/
theorem forAll_timeOut_due {x : InFlight} (hx : (s.slot p).inFlight = some x) (hdue : 16 ≤ x.frames) :
    (s.forAll State.timeOut).faultedAt p := by
  obtain ⟨before, after, split⟩ := List.append_of_mem (mem_positions p)
  have apart := positions_nodup
  rw [split] at apart
  have untouched : (before.foldl (fun s p => s.timeOut p) s).slot p = s.slot p := by
    refine List.foldlRecOn (motive := fun t : State => t.slot p = s.slot p) _ _ rfl fun t ht q hq => ?_
    have away : p ≠ q := fun h => (List.nodup_append.mp apart).2.2 q hq p List.mem_cons_self h.symm
    rw [otherSlots_timeOut t q p away, ht]
  unfold State.forAll
  rw [split, List.foldl_append, List.foldl_cons]
  generalize before.foldl (fun s p => s.timeOut p) s = t at untouched
  have faulted : (t.timeOut p).faultedAt p := by
    unfold State.timeOut
    rw [if_pos]
    · exact declareFault_leaves t p
    · rw [untouched, hx]
      exact decide_eq_true hdue
  exact List.foldlRecOn (motive := fun t : State => t.faultedAt p) _ _ faulted fun u hu q _ => timeOut_keeps hu q

theorem restored_booth (s : State) (p : Position) : s.restored.booth p = s.booth p :=
  State.posts_booth s.sup.restoreRecords 0

theorem restored_slot (s : State) (p : Position) : s.restored.slot p = s.slot p :=
  State.posts_slot s.sup.restoreRecords 0

theorem restored_port (s : State) : s.restored.port = s.port := (sameRest_posts s s.sup.restoreRecords 0).2.2

/-- Between frames there is nothing to cut (R93). -/
theorem cut_of_closed (h : s.port.inProgress = false) (n : Nat) (p : Position) :
    s.cutBooth n p = s.booth p ∧ s.cutIntercept n p = s.slot p :=
  ⟨if_neg (Bool.eq_false_iff.mp h), if_neg (Bool.eq_false_iff.mp h)⟩

theorem Booth.loseCard_state (b : Booth) : b.loseCard.state = b.state := by
  unfold Booth.loseCard
  split <;> rfl

theorem completeFrame_keeps (h : s.faultedAt p) (hin : s.port.inProgress = false) : s.completeFrame.faultedAt p := by
  rw [completeFrame_eq]
  split
  · obtain ⟨-, -, -, -, -, -, slot, booth⟩ := entersLost s.restored 0
    refine ⟨?_, congrArg Intercept.inFlight (slot p)⟩
    rw [booth p, Booth.loseCard_state]
    dsimp only
    rw [(cut_of_closed (by rw [restored_port]; exact hin) 0 p).1, restored_booth]
    exact h.1
  · refine ⟨?_, ?_⟩
    · rw [restored_booth]
      exact h.1
    · rw [restored_slot]
      exact h.2

/-- Settles O36. -/
theorem sixteenFramesMakeAReaderFault : Obligations.SixteenFramesMakeAReaderFault := by
  intro s p x trailer htaking hx hdue
  have counts := countsFrame s trailer
  have counted : ((s.frameCounted trailer).slot p).inFlight = some { x with frames := min 16 (x.frames + 1) } := by
    rw [counts.slot p]
    unfold Intercept.frameCounted
    dsimp only
    rw [hx]
    rfl
  have faulted := forAll_timeOut_due counted (Nat.le_min.mpr ⟨Nat.le_refl 16, Nat.succ_le_succ hdue⟩)
  have closed : ((s.frameCounted trailer).forAll State.timeOut).port.inProgress = false := by
    rw [(sameRest_forAll (fun q t => sameRest_timeOut q t) _).2.2, counts.rest.2.2]
    rfl
  obtain ⟨state, inFlight⟩ := completeFrame_keeps faulted closed
  exact ⟨_, exec_frameEnd htaking trailer, state, inFlight⟩

end Sys2Proof.Machine

/-! ## The end of a frame as a command (R117, R125, R142, R143, R147) -/

namespace Sys2Proof.Machine

variable {s t u : State} {p q : Position} {x : Change} {b : Booth} {c : Intercept}

/-- The records of a frame end: locks that expire, then the restoration (R117, R147). -/
def State.frameEndRecords (s : State) : List Report :=
  ((positions.filter fun p => (s.slot p).lock = 1).map fun p => Report.atPosition .lockExpired p) ++ s.sup.restoreRecords

theorem frameEndRecords_length (s : State) : s.frameEndRecords.length ≤ 25 := by
  have locks : ((positions.filter fun p => (s.slot p).lock = 1).map fun p => Report.atPosition .lockExpired p).length ≤ 24 := by
    rw [List.length_map]
    exact List.length_filter_le ..
  have one : s.sup.restoreRecords.length ≤ 1 := by
    unfold Supervisor.restoreRecords
    split
    · exact Nat.zero_le 1
    · exact Nat.zero_le 1
    · exact Nat.le_refl 1
    · exact Nat.le_refl 1
  rw [State.frameEndRecords, List.length_append]
  omega

/-- What a frame end at which no record times out makes of the state, but for a second loss (R117, R125, R143, R147). -/
structure EndsFrame (s : State) (trailer : TenBytes) (t : State) : Prop where
  tables : SameTables s t
  arrears : t.arrears = s.arrears
  ledger : t.ledger = s.ledger
  port : t.port = s.port.closed trailer
  booth : ∀ p, t.booth p = s.booth p
  slot : ∀ p, t.slot p = { s.slot p with
    lock := (s.slot p).lock - 1, inFlight := (s.slot p).inFlight.map fun x => { x with frames := x.frames + 1 }, record := none }
  reports : s.reports.length + 25 ≤ 32 → t.reports = s.reports ++ s.frameEndRecords ∧ t.lost = s.lost
  sup : t.sup = s.sup.restored

theorem endsFrame (h : s.NoneTimesOut) (trailer : TenBytes) : EndsFrame s trailer (s.frameCounted trailer).restored := by
  have counts := countsFrame s trailer
  generalize s.frameCounted trailer = t at counts
  obtain ⟨⟨tables, ⟨-, -, -, sup, -⟩, port⟩, arrears, ledger, booth, slot, reports⟩ := counts
  have sup : t.sup = s.sup := sup
  refine ⟨?_, ?_, ?_, (restored_port t).trans port, fun p => (restored_booth t p).trans (booth p),
    fun p => (restored_slot t p).trans ((slot p).trans ?_), fun hroom => ?_, congrArg Supervisor.restored sup⟩
  · obtain ⟨tariff, schedule, settings, minute⟩ := (sameRest_posts t t.sup.restoreRecords 0).1
    exact ⟨tariff.trans tables.1, schedule.trans tables.2.1, settings.trans tables.2.2.1, minute.trans tables.2.2.2⟩
  · exact (State.posts_arrears t.sup.restoreRecords 0).trans arrears
  · exact (State.posts_ledger t.sup.restoreRecords 0).trans ledger
  · unfold Intercept.frameCounted
    dsimp only
    cases hc : (s.slot p).inFlight with
    | none => rfl
    | some x =>
      have early := h p x hc
      rw [Option.map_some, Option.map_some, Nat.min_eq_right (Nat.le_of_lt early)]
  · have queue := posts_queued t t.sup.restoreRecords
    rw [reports, sup, ← List.foldl_append] at queue
    have short := Nat.le_trans (Nat.add_le_add_left (frameEndRecords_length s) _) hroom
    rw [State.restored, sup]
    exact Prod.mk.inj (queue.trans (foldl_queued_of_room short))

theorem frameCounted_sup (s : State) (trailer : TenBytes) :
    ((s.frameCounted trailer).forAll State.timeOut).sup = s.sup :=
  ((sameRest_forAll (fun q t => sameRest_timeOut q t) _).2.1.2.2.2.1).trans (countsFrame s trailer).rest.2.1.2.2.2.1

theorem SameRest.running (h : SameRest s t) (hrun : s.running) : t.running :=
  h.2.1.2.2.2.2.1.1.trans hrun

theorem SameTables.trans (h : SameTables s t) (h' : SameTables t u) : SameTables s u :=
  ⟨h'.1.trans h.1, h'.2.1.trans h.2.1, h'.2.2.1.trans h.2.2.1, h'.2.2.2.trans h.2.2.2⟩

/-- A frame end that restores the highway and does not lose it again (R143, R147). -/
theorem exec_frameEnd_restores (h : s.taking) (trailer : TenBytes)
    (hkept : ¬ (s.sup.highway ≠ .running ∧ s.sup.frameTimer = some 24576)) : exec (.frameEnd trailer) s =
      .next ((s.frameCounted trailer).forAll State.timeOut).restored := by
  rw [exec_frameEnd h, completeFrame_eq, frameCounted_sup, if_neg hkept]

/-- A frame end at which the highway is restored and lost at once (R142). -/
theorem exec_frameEnd_loses (h : s.taking) (trailer : TenBytes)
    (hlost : s.sup.highway ≠ .running ∧ s.sup.frameTimer = some 24576) : exec (.frameEnd trailer) s =
      .next (((s.frameCounted trailer).forAll State.timeOut).restored.enterLost 0) := by
  rw [exec_frameEnd h, completeFrame_eq, frameCounted_sup, if_pos hlost]

theorem restored_withSup (s : State) (v : Supervisor) (h : v.restoreRecords = s.sup.restoreRecords) :
    (s.withSup v).restored = s.restored.withSup v.restored := by
  have posted : (s.withSup v).posts v.restoreRecords 0 = (s.posts s.sup.restoreRecords 0).withSup v := by
    rw [h, State.posts_eq_queued, State.posts_eq_queued]
    rfl
  have restored := congrArg (fun t : State => t.withSup v.restored) posted
  exact restored

/-- A supervisor that is restored does so whatever its frame timer, which it leaves (R143, R147). -/
theorem Supervisor.restored_withTimer (v : Supervisor) (n : Option Nat) :
    ({ v with frameTimer := n } : Supervisor).restored = { v.restored with frameTimer := n } ∧
      ({ v with frameTimer := n } : Supervisor).restoreRecords = v.restoreRecords ∧ v.restored.highway = .running := by
  obtain ⟨highway, _, _, _⟩ := v
  cases highway <;> exact ⟨rfl, rfl, rfl⟩

/-- The state that loses the highway again: that of a frame end with a timer not expired, and then an expiry (R142). -/
theorem frameEnd_then_timeout (h : s.taking) (trailer : TenBytes)
    (hlost : s.sup.highway ≠ .running ∧ s.sup.frameTimer = some 24576) :
    ∃ u, exec (.frameEnd trailer) { s with sup := { s.sup with frameTimer := some 0 } } = .next u ∧
      exec (.frameEnd trailer) s = exec (.frameTimeout 0) u := by
  have fresh := exec_frameEnd_restores (s := s.withSup { s.sup with frameTimer := some 0 }) h trailer (fun again => nomatch again.2)
  obtain ⟨restored, records, running⟩ := s.sup.restored_withTimer (some 0)
  rw [frameCounted_withSup, forAll_withSup timeOut_withSup] at fresh
  refine ⟨_, fresh, (exec_frameEnd_loses h trailer hlost).trans ?_⟩
  have sup := frameCounted_sup s trailer
  have reset : ((s.frameCounted trailer).forAll State.timeOut).running :=
    (sameRest_forAll (fun q t => sameRest_timeOut q t) _).running ((countsFrame s trailer).rest.running h.1)
  generalize State.forAll _ State.timeOut = t at *
  have expired : t.restored = t.restored.withSup { s.sup.restored with frameTimer := some Config.frameTimeoutPeriods } := by
    have late : t.restored.sup = { s.sup.restored with frameTimer := some Config.frameTimeoutPeriods } := by
      show t.sup.restored = _
      rw [sup, show Config.frameTimeoutPeriods = 24576 from rfl, ← hlost.2, ← s.sup.restored_frameTimer]
    exact congrArg t.restored.withSup late
  have alive : (t.restored.withSup { s.sup.restored with frameTimer := some 0 }).running :=
    (sameRest_posts t t.sup.restoreRecords 0).running reset
  rw [restored_withSup t _ (records.trans (congrArg _ sup.symm)), restored, exec_frameTimeout alive]
  refine congrArg Host.Outcome.next (Eq.trans ?_ (if_neg nofun).symm)
  exact (congrArg (fun u : State => u.enterLost 0) expired).trans (if_pos running).symm

/-- Settles O35. -/
theorem frameEndCountsFramesAndRestores : Obligations.FrameEndCountsFramesAndRestores := by
  intro s trailer htaking counted port records losesAgain
  have shown : records = s.frameEndRecords := by
    dsimp only [records]
    unfold State.frameEndRecords Supervisor.restoreRecords
    cases s.sup.highway <;> rfl
  refine ⟨fun hkept hearly hroom => ?_, fun hlost => ⟨frameEnd_then_timeout htaking trailer hlost, fun hearly hroom => ?_⟩⟩
  · have hexec := exec_frameEnd_restores htaking trailer hkept
    rw [timeOut_of_none hearly] at hexec
    have ends := endsFrame hearly trailer
    obtain ⟨reports, lost⟩ := ends.reports hroom
    refine ⟨_, hexec, ends.tables, ends.arrears, ends.ledger, lost, ends.port, ends.booth, ends.slot,
      reports.trans (congrArg (s.reports ++ ·) shown.symm), ?_⟩
    rw [ends.sup]
    unfold Supervisor.restored
    cases s.sup.highway <;> rfl
  · have hexec := exec_frameEnd_loses htaking trailer hlost
    rw [timeOut_of_none hearly] at hexec
    have ends := endsFrame hearly trailer
    generalize (s.frameCounted trailer).restored = t at *
    obtain ⟨tables, arrears, ledger, queue, sup, port, slot, booth⟩ := entersLost t 0
    have room : s.reports.length + s.frameEndRecords.length < 32 :=
      Nat.lt_of_lt_of_le (Nat.lt_succ_of_le (Nat.add_le_add_left (frameEndRecords_length s) _)) hroom
    obtain ⟨reports, kept⟩ := ends.reports (Nat.le_of_succ_le hroom)
    have closed : t.port.inProgress = false := congrArg Port.inProgress ends.port
    rw [reports, kept] at queue
    obtain ⟨reports, lost⟩ := Prod.mk.inj (queue.trans (if_pos (by rw [List.length_append]; exact room)))
    refine ⟨_, hexec, ends.tables.trans tables, arrears.trans ends.arrears, ledger.trans ends.ledger, lost,
      port.trans ?_, fun p => (slot p).trans ?_, reports.trans ?_, sup.trans ?_⟩
    · rw [ends.port]
      exact if_neg nofun
    · rw [(cut_of_closed closed 0 p).2, ends.slot p]
    · rw [shown]
      rfl
    · rw [ends.sup, ← hlost.2, ← s.sup.restored_frameTimer]

end Sys2Proof.Machine

/-! ## A sample that brings events to one booth alone (R128 to R134) -/

namespace Sys2Proof.Machine

variable {s t u : State} {p q r : Position} {x : Change} {b : Booth} {c : Intercept} {rows : Byte}

/-! ### Modes outlast what other booths do (R4, R71) -/

theorem Change.transferPair_mode (x : Change) (r : Position) (pair : Option Pair) :
    (x.transferPair r pair).booth.mode = x.booth.mode := by
  unfold Change.transferPair
  split
  · rfl
  split <;> rfl

theorem Change.transfer_mode (x : Change) (q r : Position) (hold graceTime serial n : Nat) (pair : Option Pair) (full : Bool)
    (aux : Nat) : (x.transfer q r hold graceTime serial n pair full aux).booth.mode = x.booth.mode := by
  have cleared (y : Change) : (y.clearSaturated r hold).booth.mode = y.booth.mode := by
    unfold Change.clearSaturated
    split <;> rfl
  unfold Change.transfer
  dsimp only
  obtain ⟨_, _, moved⟩ := Booth.evaluated_frame (if full = true then
      ((({ x with records := x.records ++ [.opened q serial n pair] ++ [.collected r serial n aux] } : Change).addOwed r
        n).transferPair r pair).clearSaturated r hold
    else (({ x with records := x.records ++ [.opened q serial n pair] ++ [.collected r serial n aux] } : Change).addOwed r
      n).transferPair r pair).booth _ graceTime
  rw [moved]
  dsimp only
  split
  · exact (cleared _).trans (Change.transferPair_mode ..)
  · exact Change.transferPair_mode ..

theorem sending_mode (p : Position) (debt : Option Nat) (n : Nat) (pair : Option Pair) :
    (s.sending p debt n pair).change.booth.mode = (s.booth (s.sending p debt n pair).position).mode := by
  unfold State.sending
  split
  · exact Change.transfer_mode ..
  · rfl

/-- No debt that leaves a booth changes the mode of any (R4, R70). -/
theorem sendOut_mode (s : State) (p q : Position) (debt : Option Nat) (n : Nat) (pair : Option Pair) :
    ((s.sendOut p debt n pair).booth q).mode = (s.booth q).mode := by
  rw [sendOut_eq_change]
  by_cases h : q = (s.sending p debt n pair).position
  · rw [h, State.change_booth]
    exact sending_mode p debt n pair
  · rw [(localAt_change ..).booths q h]

/-- The modes of the booths but `p` are as they were. -/
def OtherModes (p : Position) (s t : State) : Prop := ∀ q, q ≠ p → (t.booth q).mode = (s.booth q).mode

theorem LocalAt.otherModes (h : LocalAt p s t) : OtherModes p s t := fun q hq => congrArg Booth.mode (h.booths q hq)

theorem otherModes_sendOut (ht : LocalAt p s t) (q : Position) (debt : Option Nat) (n : Nat) (pair : Option Pair) :
    OtherModes p s (t.sendOut q debt n pair) := fun r hr => (sendOut_mode ..).trans (ht.otherModes r hr)

theorem otherModes_lineFall (s : State) (p : Position) : OtherModes p s (s.lineFall p) := by
  have placed (b : Booth) (r : Report) : LocalAt p s ((s.place r).setBooth p b) :=
    (localAt_place s p r).trans (localAt_setBooth _ p b)
  unfold State.lineFall
  split
  · split
    · exact fun q hq => otherModes_sendOut (placed ..) p _ _ _ q hq
    · unfold State.endCall
      dsimp only
      split
      · exact (placed ..).otherModes
      · intro q hq
        rw [(localAt_onBooth ..).booths q hq]
        exact otherModes_sendOut (placed ..) p _ _ _ q hq
  · split
    · exact (localAt_onBooth ..).otherModes
    · exact fun _ _ => rfl

theorem otherModes_loopEvent (s : State) (p : Position) (e : LineEvent) : OtherModes p s (s.loopEvent p e) := by
  cases e with
  | first high =>
    unfold State.loopEvent
    dsimp only
    split
    · exact ((localAt_onBooth ..).trans (localAt_checkResume ..)).otherModes
    · exact fun _ _ => rfl
  | rise => exact fun _ _ => rfl
  | fall => exact otherModes_lineFall s p

theorem otherModes_answerEvent (s : State) (p : Position) (e : LineEvent) : OtherModes p s (s.answerEvent p e) := by
  cases e with
  | first high =>
    unfold State.answerEvent
    dsimp only
    split
    · exact ((localAt_onBooth ..).trans (localAt_checkResume ..)).otherModes
    · exact fun _ _ => rfl
  | rise =>
    unfold State.answerEvent
    dsimp only
    split
    · exact (localAt_answerRise ..).otherModes
    · exact fun _ _ => rfl
  | fall => exact otherModes_lineFall s p

theorem otherModes_deliver {act : State → LineEvent → State} (h : ∀ s e, OtherModes p s (act s e)) (s : State)
    (e : Option LineEvent) : OtherModes p s (s.deliver p e act) := by
  unfold State.deliver
  split
  · exact fun _ _ => rfl
  · split
    · exact fun _ _ => rfl
    · exact h _ _

theorem otherModes_sampleBooth (rows : Byte) (s : State) (p : Position) : OtherModes p s (s.sampleBooth rows p) :=
  fun q hq => (otherModes_deliver (fun s e => otherModes_answerEvent s p e) _ _ q hq).trans
    (otherModes_deliver (fun s e => otherModes_loopEvent s p e) _ _ q hq)

/-! ### What one signal hears (R132, R133) -/

theorem Debounce.sample_of_completes {x : Debounce} {d : Nat} {level : Bool} (h : x.completes d level) :
    (x.sample d level).2 = some (lineEvent x.level level) ∧ (x.sample d level).1.level = some level := by
  unfold Debounce.sample
  dsimp only
  rw [if_neg h.1, if_pos h.2]
  exact ⟨rfl, rfl⟩

theorem Debounce.sample_of_not_completes {x : Debounce} {d : Nat} {level : Bool} (h : ¬ x.completes d level) :
    (x.sample d level).2 = none ∧ (x.sample d level).1.level = x.level := by
  unfold Debounce.sample
  dsimp only
  by_cases hlevel : x.level = some level
  · rw [if_pos hlevel]
    exact ⟨rfl, rfl⟩
  · rw [if_neg hlevel, if_neg fun hrun => h ⟨hlevel, hrun⟩]
    exact ⟨rfl, rfl⟩

/-- The LOOP event that a sample of these rows brings to `p`. -/
def State.loopHeard (s : State) (rows : Byte) (p : Position) : Option LineEvent :=
  ((s.loop p).sample s.settings.debounceCount (rows.getLsbD (evenRow p))).2

/-- The ANSWER event that a sample of these rows brings to `p`. -/
def State.answerHeard (s : State) (rows : Byte) (p : Position) : Option LineEvent :=
  ((s.answerLine p).sample s.settings.debounceCount (rows.getLsbD (oddRow p))).2

/-- LOOP at `p` as it stands after a sample of these rows. -/
def State.loopThen (s : State) (rows : Byte) (p : Position) : Option Bool :=
  ((s.loop p).sample s.settings.debounceCount (rows.getLsbD (evenRow p))).1.level

/-- `s` with another scanner. -/
def State.withScan (s : State) (v : Scanner) : State := { s with scan := v }

/-- The samples of one booth hand on the event of LOOP and then that of ANSWER (R133). -/
theorem sampleBooth_eq (s : State) (rows : Byte) (p : Position) : ∃ v w,
    s.sampleBooth rows p = (((s.withScan v).deliver p (s.loopHeard rows p) fun t e => t.loopEvent p e).withScan w).deliver p
      (s.answerHeard rows p) (fun t e => t.answerEvent p e) ∧ w.loop[p].level = s.loopThen rows p := by
  have rest := sampleLoop_rest s p (rows.getLsbD (evenRow p))
  have scan : (s.sampleLoop p (rows.getLsbD (evenRow p))).scan = { s.scan with
      loop := s.scan.loop.set p.val ((s.loop p).sample s.settings.debounceCount (rows.getLsbD (evenRow p))).1 p.isLt } :=
    rest.scan
  have settings : (s.sampleLoop p (rows.getLsbD (evenRow p))).settings = s.settings := rest.settings
  have heard : (s.sampleLoop p (rows.getLsbD (evenRow p))).answerLine p = s.answerLine p :=
    (congrArg (fun v : Scanner => v.answer[p]) scan :)
  have acts := congrArg (fun y : Debounce × Option LineEvent => ((s.sampleLoop p (rows.getLsbD (evenRow p))).withScan
      { (s.sampleLoop p (rows.getLsbD (evenRow p))).scan with
        answer := (s.sampleLoop p (rows.getLsbD (evenRow p))).scan.answer.set p.val y.1 p.isLt }).deliver p y.2
      fun t e => t.answerEvent p e) (congrArg₂ (fun d z => Debounce.sample d z (rows.getLsbD (oddRow p)))
        (congrArg Settings.debounceCount settings) heard)
  refine ⟨_, _, acts, ?_⟩
  rw [scan]
  exact congrArg Debounce.level (Vector.getElem_set_self p.isLt)

/-! ### The other booths of the column (R134) -/

/-- A sample of these rows brings no event to `q`. -/
def State.Unheard (s : State) (rows : Byte) (q : Position) : Prop :=
  (s.booth q).mode = .free ∨ (¬ s.loopCompletes rows q ∧ ¬ s.answerCompletes rows q)

theorem deliver_free (h : (s.booth p).mode = .free) (e : Option LineEvent) (act : State → LineEvent → State) :
    s.deliver p e act = s := by
  unfold State.deliver
  split
  · rfl
  · exact if_pos h

theorem sampleBooth_unheard (h : s.Unheard rows q) : ∃ v, s.sampleBooth rows q = s.withScan v := by
  obtain ⟨v, w, heard, -⟩ := sampleBooth_eq s rows q
  refine ⟨w, heard.trans ?_⟩
  rcases h with hfree | ⟨hloop, hanswer⟩
  · rw [deliver_free (s := s.withScan v) hfree]
    exact deliver_free (s := s.withScan w) hfree ..
  · have silent : s.loopHeard rows q = none ∧ s.answerHeard rows q = none :=
      ⟨(Debounce.sample_of_not_completes hloop).1, (Debounce.sample_of_not_completes hanswer).1⟩
    rw [silent.1, silent.2]
    rfl

/-- The records of one booth are not those of another (R132). -/
theorem sampleBooth_elsewhere (s : State) (rows : Byte) (h : q ≠ p) :
    (s.sampleBooth rows p).loop q = s.loop q ∧ (s.sampleBooth rows p).answerLine q = s.answerLine q := by
  have hne : p.val ≠ q.val := fun heq => h (Fin.ext heq.symm)
  unfold State.loop State.answerLine
  rw [sampleBooth_records]
  exact ⟨Vector.getElem_set_ne p.isLt q.isLt hne, Vector.getElem_set_ne p.isLt q.isLt hne⟩

theorem unheard_after (h : s.Unheard rows q) (hne : q ≠ p) : (s.sampleBooth rows p).Unheard rows q := by
  obtain ⟨loop, answer⟩ := sampleBooth_elsewhere s rows hne
  have settings : (s.sampleBooth rows p).settings = s.settings := (sampleBooth_rest rows s p).settings
  unfold State.Unheard State.loopCompletes State.answerCompletes
  rw [loop, answer, settings, otherModes_sampleBooth rows s p q hne]
  exact h

theorem foldl_unheard {l : List Position} (hl : l.Nodup) (h : ∀ q ∈ l, s.Unheard rows q) :
    ∃ v, l.foldl (State.sampleBooth rows) s = s.withScan v := by
  induction l generalizing s with
  | nil => exact ⟨s.scan, rfl⟩
  | cons p l ih =>
    obtain ⟨hp, hl⟩ := List.nodup_cons.mp hl
    obtain ⟨v, first⟩ := sampleBooth_unheard (h p List.mem_cons_self)
    obtain ⟨w, others⟩ := ih hl fun q hq =>
      unheard_after (h q (List.mem_cons_of_mem p hq)) (ne_of_mem_of_not_mem hq hp)
    refine ⟨w, others.trans ?_⟩
    rw [first]
    rfl

theorem columnOf_eq_iff : columnOf q = columnOf p ↔ q.val / 4 = p.val / 4 := Fin.ext_iff

/-- What a sample makes of the state where it brings events to `p` alone: the LOOP event acts and then the ANSWER event,
and the rest is the scanner's. -/
theorem exec_senseSample_alone {y : RowInputs} (h : s.SamplesAlone (y.driven &&& y.level) p) :
    ∃ v w w', exec (.senseSample y) s = .next (((((s.withScan v).deliver p (s.loopHeard (y.driven &&& y.level) p)
        fun t e => t.loopEvent p e).withScan w).deliver p (s.answerHeard (y.driven &&& y.level) p)
        fun t e => t.answerEvent p e).withScan w') ∧ w.loop[p].level = s.loopThen (y.driven &&& y.level) p := by
  obtain ⟨hrun, hsense, hunsampled, hcolumn, hothers⟩ := h
  have mine : p ∈ columnPositions s.scan.column := mem_columnPositions.mpr (congrArg Fin.val hcolumn)
  have apart := columnPositions_nodup s.scan.column
  obtain ⟨before, after, split⟩ := List.append_of_mem mine
  have others : ∀ q, q ∈ before ∨ q ∈ after → q ≠ p → s.Unheard (y.driven &&& y.level) q := fun q hq hne => by
    refine hothers q hne (columnOf_eq_iff.mpr ?_)
    have here : q ∈ columnPositions s.scan.column := by
      rw [split]
      rcases hq with hq | hq
      · exact List.mem_append_left _ hq
      · exact List.mem_append_right _ (List.mem_cons_of_mem p hq)
    exact (mem_columnPositions.mp here).trans (mem_columnPositions.mp mine).symm
  rw [split] at apart
  obtain ⟨nodup, nodup', disjoint⟩ := List.nodup_append.mp apart
  obtain ⟨hnotin, nodup'⟩ := List.nodup_cons.mp nodup'
  have fresh : p ∉ before := fun hmem => disjoint p hmem p List.mem_cons_self rfl
  have start : ∀ q ∈ before, (s.withScan s.scan.endSense).Unheard (y.driven &&& y.level) q := fun q hq =>
    others q (.inl hq) fun heq => fresh (heq ▸ hq)
  obtain ⟨v, first⟩ : ∃ v, before.foldl (State.sampleBooth (y.driven &&& y.level)) (s.withScan s.scan.endSense) =
      s.withScan v := foldl_unheard nodup start
  have kept : ∀ q, q ∉ before → (s.withScan v).loop q = s.loop q ∧ (s.withScan v).answerLine q = s.answerLine q :=
    fun q hq => by
      obtain ⟨loop, answer⟩ := foldl_sampleBooth_records (y.driven &&& y.level) q nodup (s.withScan s.scan.endSense)
      rw [first, if_neg hq] at loop answer
      exact ⟨loop, answer⟩
  have rest : ∀ q ∈ after, ((s.withScan v).sampleBooth (y.driven &&& y.level) p).Unheard (y.driven &&& y.level) q :=
    fun q hq => by
      have away : q ≠ p := ne_of_mem_of_not_mem hq hnotin
      obtain ⟨loop, answer⟩ := kept q fun hmem => disjoint q hmem q (List.mem_cons_of_mem p hq) rfl
      refine unheard_after ?_ away
      unfold State.Unheard State.loopCompletes State.answerCompletes
      rw [loop, answer]
      exact others q (.inr hq) away
  obtain ⟨w', last⟩ := foldl_unheard nodup' rest
  obtain ⟨loop, answer⟩ := kept p fresh
  obtain ⟨v', w, heard, high⟩ := sampleBooth_eq (s.withScan v) (y.driven &&& y.level) p
  unfold State.loopHeard State.answerHeard at heard
  unfold State.loopThen at high
  rw [loop] at heard high
  rw [answer] at heard
  refine ⟨v', w, w', (senseSample_of_unsampled hrun hsense hunsampled y).trans (congrArg Host.Outcome.next ?_), high⟩
  have folded : s.sampleColumn y = (before ++ p :: after).foldl (State.sampleBooth (y.driven &&& y.level))
      (s.withScan s.scan.endSense) := congrArg (fun l : List Position =>
    l.foldl (State.sampleBooth (y.driven &&& y.level)) (s.withScan s.scan.endSense)) split
  rw [folded, List.foldl_append, first, List.foldl_cons, last, heard]
  rfl

end Sys2Proof.Machine

/-! ## Calls that line events start (R10, R11, R19 to R21, R134) -/

namespace Sys2Proof.Machine

variable {s t u : State} {p q r : Position} {x : Change} {b : Booth} {c : Intercept} {rows : Byte} {v w : Scanner}

/-! ### An ANSWER rise with LOOP high (R10, R11, R19) -/

/-- The units of the answer, with the one in advance (R34). -/
def TariffEntry.answerUnits (e : TariffEntry) : Nat := e.charge + if 0 < e.rate then 1 else 0

/-- The booth of a charged call, before its answer units reach W (R10). -/
def Booth.called (b : Booth) (band : Band) (e : TariffEntry) : Booth :=
  { b with state := .call, callUp := true, resumed := .no, bandAtAnswer := band, rate := some e.rate, fraction := 0,
           callUnits := e.answerUnits, lastSerial := b.serial }

/-- The booth of a charged call that finds no tariff (R15). -/
def Booth.calledUnset (b : Booth) (band : Band) (hold : Nat) : Booth :=
  { b with state := .clearing, callUp := true, resumed := .no, bandAtAnswer := band, rate := none, callUnits := 0,
           lastSerial := b.serial, grace := 0, timer := some (.assert hold) }

/-- The booth of a call that starts in FAULT (R19). -/
def Booth.faultCalled (b : Booth) (band : Band) (hold : Nat) : Booth :=
  { b with callUp := true, bandAtAnswer := band, callUnits := 0, timer := some (.assert hold) }

/-- The change by a charged call at the booth `b` (R10, R34). -/
def State.startCallChange (s : State) (p : Position) (b : Booth) (c : Intercept) : Change :=
  let band := b.band.getD s.settings.unknownBand
  match s.lookup band with
  | some e => { s.rewrite b c with
      booth := ((b.called band e).charged s.settings.clearDownHold e.answerUnits).evaluated c s.settings.graceTime,
      records := (b.called band e).overflowRecords p e.answerUnits,
      accrued := e.answerUnits, dropped := (b.called band e).overflow e.answerUnits }
  | none => { s.rewrite b c with
      booth := b.calledUnset band s.settings.clearDownHold, records := [.clearDown p .tariffUnset] }

theorem startCall_eq (s : State) (p : Position) :
    s.startCall p = s.change p (s.startCallChange p (s.booth p) (s.slot p)) := by
  have band : s.effectiveBand p = (s.booth p).band.getD s.settings.unknownBand := rfl
  unfold State.startCall State.startCallChange
  dsimp only
  rw [band]
  cases s.lookup ((s.booth p).band.getD s.settings.unknownBand) with
  | some e =>
    have called : s.onBooth p (fun b => b.called ((s.booth p).band.getD s.settings.unknownBand) e) =
        s.change p (s.rewrite ((s.booth p).called ((s.booth p).band.getD s.settings.unknownBand) e) (s.slot p)) :=
      State.setBooth_eq_change ..
    refine (congrArg (fun t : State => ((t.addAccrued e.answerUnits).charge p e.answerUnits).evaluate p) called).trans ?_
    rw [State.change_addAccrued, State.change_charge, State.change_evaluate, Change.charge_eq]
    unfold State.rewrite
    dsimp only
    rw [Nat.zero_add, Nat.zero_add, List.nil_append]
  | none =>
    dsimp only
    rw [State.onBooth_eq, State.setBooth_eq_change, State.change_enterClearing]
    rfl

/-- The change by an ANSWER rise with LOOP high (R10, R11, R19, R134). -/
def State.answerChange (s : State) (p : Position) : Change :=
  let b := s.booth p
  let kept := s.rewrite b (s.slot p)
  match b.state with
  | .card => s.startCallChange p b (s.slot p)
  | .vacant => { kept with
      booth := { b with state := .opened, callUp := true, bandAtAnswer := s.settings.unknownBand, callUnits := 0 } }
  | .fault => { kept with
      booth := b.faultCalled (b.band.getD s.settings.unknownBand) s.settings.clearDownHold,
      records := [.clearDown p .readerFault] }
  | .call | .grace | .clearing | .opened => kept

theorem startFaultCall_eq (s : State) (p : Position) (b : Booth) (c : Intercept) :
    (s.change p (s.rewrite b c)).startFaultCall p = s.change p { s.rewrite b c with
      booth := b.faultCalled (b.band.getD s.settings.unknownBand) s.settings.clearDownHold,
      records := [.clearDown p .readerFault] } := by
  unfold State.startFaultCall
  rw [State.onBooth_eq, State.change_booth, State.change_setBooth, State.change_place, State.change_effectiveBand]
  rfl

theorem answerRise_eq (s : State) (p : Position) : s.answerRise p = s.change p (s.answerChange p) := by
  unfold State.answerRise State.answerChange
  dsimp only
  cases (s.booth p).state with
  | card => exact startCall_eq s p
  | vacant => exact State.setBooth_eq_change ..
  | fault => exact (congrArg (fun t : State => t.startFaultCall p) (State.change_self s p)).trans (startFaultCall_eq ..)
  | _ => exact State.change_self s p

/-- A change that leaves the interception context and the Arrears List alone. -/
structure Change.Settles (x : Change) (s : State) (p : Position) : Prop where
  slot : x.slot = s.slot p
  entries : x.entries = s.arrears

theorem rewrite_settles (s : State) (p : Position) (b : Booth) : (s.rewrite b (s.slot p)).Settles s p := ⟨rfl, rfl⟩

theorem startCallChange_settles (s : State) (p : Position) (b : Booth) :
    (s.startCallChange p b (s.slot p)).Settles s p := by
  unfold State.startCallChange
  dsimp only
  split <;> exact ⟨rfl, rfl⟩

theorem answerChange_settles (s : State) (p : Position) : (s.answerChange p).Settles s p := by
  unfold State.answerChange
  dsimp only
  split
  · exact startCallChange_settles ..
  all_goals exact ⟨rfl, rfl⟩

/-! ### The resume check (R20, R21) -/

/-- The change by a resumed call at the booth `b` (R21). -/
def State.resumedChange (s : State) (p : Position) (b : Booth) (c : Intercept) : Change :=
  match s.lookup s.settings.unknownBand with
  | some e => { s.rewrite b c with
      booth := if b.present = .yes then (b.resumedCall s.settings.unknownBand e.rate).evaluated c s.settings.graceTime
        else { b.resumedCall s.settings.unknownBand e.rate with state := .grace, grace := s.settings.graceTime * 10 } }
  | none => { s.rewrite b c with
      booth := b.resumedUnset s.settings.unknownBand s.settings.clearDownHold,
      records := [.clearDown p .tariffUnset] }

theorem startResumed_eq (s : State) (p : Position) (b : Booth) (c : Intercept) :
    (s.change p (s.rewrite b c)).startResumed p = s.change p (s.resumedChange p b c) := by
  unfold State.resumedChange
  cases he : s.lookup s.settings.unknownBand with
  | none => exact State.change_startResumed_unset he
  | some e =>
    dsimp only
    by_cases hp : b.present = .yes
    · rw [if_pos hp]
      exact State.change_startResumed_present he hp
    · rw [if_neg hp]
      exact State.change_startResumed_absent he hp

/-- The booth once its resume check has ended with no call found up (R20). -/
def Booth.resumeRefused (b : Booth) : Booth := { b with resumed := .no }

/-- The change by a resume check that finds the call of `b` up (R19, R20). -/
def State.foundChange (s : State) (p : Position) (b : Booth) (c : Intercept) : Change :=
  if b.state = .fault then { s.rewrite b c with
    booth := b.resumeRefused.faultCalled (b.band.getD s.settings.unknownBand) s.settings.clearDownHold,
    records := [.clearDown p .readerFault] }
  else if b.present = .unknown then s.rewrite b c
  else s.resumedChange p b c

theorem resumeFound_eq (s : State) (p : Position) (b : Booth) (c : Intercept) :
    (s.change p (s.rewrite b c)).resumeFound p = s.change p (s.foundChange p b c) := by
  have booth : (s.change p (s.rewrite b c)).booth p = b := State.change_booth ..
  have refused : (s.change p (s.rewrite b c)).onBooth p Booth.resumeRefused =
      s.change p (s.rewrite b.resumeRefused c) := by
    rw [State.onBooth_eq, booth, State.change_setBooth]
    rfl
  have found : (s.change p (s.rewrite b c)).resumeFound p =
      if b.state = .fault then ((s.change p (s.rewrite b c)).onBooth p Booth.resumeRefused).startFaultCall p
      else if b.present = .unknown then s.change p (s.rewrite b c)
      else (s.change p (s.rewrite b c)).startResumed p := by
    unfold State.resumeFound
    rw [booth]
    cases b.state <;> rfl
  unfold State.foundChange
  rw [found, startResumed_eq, apply_ite (s.change p), apply_ite (s.change p), refused]
  exact if_congr Iff.rfl (startFaultCall_eq s p b.resumeRefused c) rfl

/-- The change by a resume check that has been told the first values of `b` (R20). -/
def State.checkChange (s : State) (p : Position) (b : Booth) (c : Intercept) : Change :=
  match b.firstLoop, b.firstAnswer with
  | some true, some true => s.foundChange p b c
  | some _, some _ => s.rewrite b.resumeRefused c
  | _, _ => s.rewrite b c

theorem checkResume_eq (s : State) (p : Position) (b : Booth) (c : Intercept) :
    (s.change p (s.rewrite b c)).checkResume p = s.change p (s.checkChange p b c) := by
  have booth : (s.change p (s.rewrite b c)).booth p = b := State.change_booth ..
  have refused : (s.change p (s.rewrite b c)).onBooth p Booth.resumeRefused =
      s.change p (s.rewrite b.resumeRefused c) := by
    rw [State.onBooth_eq, booth, State.change_setBooth]
    rfl
  have found := resumeFound_eq s p b c
  unfold State.checkResume State.checkChange
  rw [booth]
  match b.firstLoop, b.firstAnswer with
  | none, _ => rfl
  | some false, none => rfl
  | some true, none => rfl
  | some false, some false => exact refused
  | some false, some true => exact refused
  | some true, some false => exact refused
  | some true, some true => exact found

theorem checkChange_settles (s : State) (p : Position) (b : Booth) : (s.checkChange p b (s.slot p)).Settles s p := by
  unfold State.checkChange State.foundChange State.resumedChange
  split
  · split
    · exact ⟨rfl, rfl⟩
    split
    · exact ⟨rfl, rfl⟩
    split <;> exact ⟨rfl, rfl⟩
  all_goals exact ⟨rfl, rfl⟩

end Sys2Proof.Machine

/-! ## Line rises and first values (R10 to R12, R19 to R21, R40, R134) -/

namespace Sys2Proof.Machine

variable {s t u : State} {p q r : Position} {x : Change} {b : Booth} {c : Intercept} {rows : Byte} {v w : Scanner}

/-! ### Events that act on nothing (R20, R133, R134) -/

theorem deliver_charged (h : (s.booth p).mode = .charged) (e : LineEvent) (act : State → LineEvent → State) :
    s.deliver p (some e) act = act s e :=
  if_neg (by rw [h]; nofun)

/-- LOOP completes no run, or one whose event acts on nothing. -/
def State.LoopStill (s : State) (rows : Byte) (p : Position) : Prop :=
  s.loopCompletes rows p → (s.loop p).level = some false ∨ ((s.loop p).level = none ∧ (s.booth p).resumed = .no)

/-- A run that completes from low is a rise (R133). -/
theorem Debounce.sample_rises {y : Debounce} {d : Nat} {level : Bool} (h : y.completes d level) (hlow : y.level = some false) :
    (y.sample d level).2 = some .rise := by
  have high : level = true := by
    cases level with
    | true => rfl
    | false => exact absurd hlow h.1
  rw [(Debounce.sample_of_completes h).1, hlow, high]
  rfl

theorem Debounce.sample_first {y : Debounce} {d : Nat} {level : Bool} (h : y.completes d level) (hnone : y.level = none) :
    (y.sample d level).2 = some (.first level) := by
  rw [(Debounce.sample_of_completes h).1, hnone]
  rfl

theorem loop_still (hstill : s.LoopStill rows p) (hcharged : (s.booth p).mode = .charged) (v : Scanner) :
    (s.withScan v).deliver p (s.loopHeard rows p) (fun t e => t.loopEvent p e) = s.withScan v := by
  by_cases h : s.loopCompletes rows p
  · rcases hstill h with hlow | ⟨hnone, hno⟩
    · have rises : s.loopHeard rows p = some .rise := Debounce.sample_rises h hlow
      rw [rises, deliver_charged (s := s.withScan v) hcharged]
      rfl
    · have first : s.loopHeard rows p = some (.first (rows.getLsbD (evenRow p))) := Debounce.sample_first h hnone
      rw [first, deliver_charged (s := s.withScan v) hcharged]
      refine if_neg ?_
      rw [show ((s.withScan v).booth p).resumed = .no from hno]
      nofun
  · have silent : s.loopHeard rows p = none := (Debounce.sample_of_not_completes h).1
    rw [silent]
    rfl

theorem answer_still (hstill : s.answerCompletes rows p → (s.answerLine p).level = none ∧ (s.booth p).resumed = .no)
    (hcharged : (s.booth p).mode = .charged) (w : Scanner) :
    (s.withScan w).deliver p (s.answerHeard rows p) (fun t e => t.answerEvent p e) = s.withScan w := by
  by_cases h : s.answerCompletes rows p
  · obtain ⟨hnone, hno⟩ := hstill h
    have first : s.answerHeard rows p = some (.first (rows.getLsbD (oddRow p))) := Debounce.sample_first h hnone
    rw [first, deliver_charged (s := s.withScan w) hcharged]
    refine if_neg ?_
    rw [show ((s.withScan w).booth p).resumed = .no from hno]
    nofun
  · have silent : s.answerHeard rows p = none := (Debounce.sample_of_not_completes h).1
    rw [silent]
    rfl

/-- LOOP stands high after the sample: it was high, or completes a run at high (R132). -/
theorem loopThen_iff : s.loopThen rows p = some true ↔ ((s.loop p).level = some true ∧ ¬ s.loopCompletes rows p) ∨
    (s.loopCompletes rows p ∧ rows.getLsbD (evenRow p) = true) := by
  by_cases h : s.loopCompletes rows p
  · have level : s.loopThen rows p = some (rows.getLsbD (evenRow p)) := (Debounce.sample_of_completes h).2
    rw [level, Option.some_inj]
    simp [h]
  · have level : s.loopThen rows p = (s.loop p).level := (Debounce.sample_of_not_completes h).2
    rw [level]
    simp [h]

/-! ### What a sample leaves (R128) -/

/-- A state differs from another by a change at `p` and in its scanner. -/
def HeardAs (s : State) (p : Position) (x : Change) (t : State) : Prop := ∃ w, t = (s.change p x).withScan w

theorem HeardAs.same (h : HeardAs s p x t) (hx : x.Settles s p) : OtherBooths p s t ∧ t.slots = s.slots ∧ SameTables s t ∧
    t.arrears = s.arrears ∧ t.port = s.port ∧ t.sup = s.sup := by
  obtain ⟨w, rfl⟩ := h
  refine ⟨(localAt_change s p x).booths, slots_of_slot fun q => ?_, ⟨rfl, rfl, rfl, rfl⟩, hx.entries, rfl, rfl⟩
  by_cases hq : q = p
  · rw [hq]
    exact (State.change_slot s p x).trans hx.slot
  · exact (localAt_change s p x).slots q hq

theorem HeardAs.booth (h : HeardAs s p x t) : t.booth p = x.booth := by
  obtain ⟨w, rfl⟩ := h
  exact State.change_booth s p x

theorem HeardAs.ledger (h : HeardAs s p x t) : t.ledger = {
    accrued := s.ledger.accrued + x.accrued
    debited := s.ledger.debited + x.debited
    dropped := s.ledger.dropped + x.dropped } := by
  obtain ⟨w, rfl⟩ := h
  rfl

theorem HeardAs.reports (h : HeardAs s p x t) (hroom : s.reports.length + x.records.length ≤ 32) :
    t.lost = s.lost ∧ t.reports = s.reports ++ x.records := by
  obtain ⟨w, rfl⟩ := h
  exact State.change_reports (p := p) hroom

/-- A change of contexts alone has no record and no units. -/
theorem HeardAs.quiet (h : HeardAs s p (s.rewrite b c) t) : t.booth p = b ∧ t.ledger = s.ledger ∧ SameReports s t := by
  obtain ⟨w, rfl⟩ := h
  exact ⟨State.change_booth s p (s.rewrite b c), rfl, rfl, rfl⟩

/-! ### Outcomes of a sample (R10, R11, R19, R20) -/

/-- An ANSWER rise acts where LOOP then stands high, and only there (R134). -/
theorem rise_heard {y : RowInputs} (halone : s.SamplesAlone (y.driven &&& y.level) p)
    (hcharged : (s.booth p).mode = .charged) (hstill : s.LoopStill (y.driven &&& y.level) p)
    (hlow : (s.answerLine p).level = some false) (hcompletes : s.answerCompletes (y.driven &&& y.level) p)
    (hexec : exec (.senseSample y) s = .next t) :
    HeardAs s p (if s.loopThen (y.driven &&& y.level) p = some true then s.answerChange p
      else s.rewrite (s.booth p) (s.slot p)) t := by
  obtain ⟨v, w, w', happens, high⟩ := exec_senseSample_alone halone
  obtain rfl := Host.Outcome.next.inj (hexec.symm.trans happens)
  have rises : s.answerHeard (y.driven &&& y.level) p = some .rise := Debounce.sample_rises hcompletes hlow
  have acts : ((s.withScan v).withScan w).answerEvent p .rise =
      if s.loopThen (y.driven &&& y.level) p = some true then (s.withScan w).answerRise p else s.withScan w := by
    have stands : (s.withScan w).loopHigh p = true ↔ s.loopThen (y.driven &&& y.level) p = some true :=
      decide_eq_true_iff.trans (by rw [← high]; rfl)
    exact if_congr stands rfl rfl
  rw [loop_still hstill hcharged, rises, deliver_charged (s := (s.withScan v).withScan w) hcharged, acts]
  split
  · rw [answerRise_eq]
    exact ⟨w', rfl⟩
  · exact ⟨w', (congrArg (fun u : State => u.withScan w') (State.change_self s p) :)⟩

/-- Where neither event acts the booth is as it was. -/
theorem still_heard {y : RowInputs} (halone : s.SamplesAlone (y.driven &&& y.level) p)
    (hcharged : (s.booth p).mode = .charged) (hstill : s.LoopStill (y.driven &&& y.level) p)
    (hanswer : s.answerCompletes (y.driven &&& y.level) p → (s.answerLine p).level = none ∧ (s.booth p).resumed = .no)
    (hexec : exec (.senseSample y) s = .next t) : HeardAs s p (s.rewrite (s.booth p) (s.slot p)) t := by
  obtain ⟨v, w, w', happens, -⟩ := exec_senseSample_alone halone
  obtain rfl := Host.Outcome.next.inj (hexec.symm.trans happens)
  rw [loop_still hstill hcharged]
  exact ⟨w', (congrArg (fun u : State => u.withScan w') (answer_still hanswer hcharged w)).trans
    (congrArg (fun u : State => u.withScan w') (State.change_self s p) :)⟩

/-- The sample brings the first value of LOOP (R133). -/
def State.LoopFirst (s : State) (rows : Byte) (p : Position) : Prop := (s.loop p).level = none ∧ s.loopCompletes rows p

/-- The sample brings the first value of ANSWER (R133). -/
def State.AnswerFirst (s : State) (rows : Byte) (p : Position) : Prop :=
  (s.answerLine p).level = none ∧ s.answerCompletes rows p

/-- The first values that the resume check knows after a sample (R20). -/
structure FirstValues (s : State) (rows : Byte) (p : Position) (z y : Option Bool) : Prop where
  loop : s.LoopFirst rows p → z = some (rows.getLsbD (2 * (p.val % 4)))
  loopKept : ¬ s.LoopFirst rows p → z = (s.booth p).firstLoop
  answer : s.AnswerFirst rows p → y = some (rows.getLsbD (2 * (p.val % 4) + 1))
  answerKept : ¬ s.AnswerFirst rows p → y = (s.booth p).firstAnswer

/-- The booth whose resume check knows these first values (R20). -/
def Booth.told (b : Booth) (z a : Option Bool) : Booth := { b with firstLoop := z, firstAnswer := a }

theorem loopEvent_first (hwaits : b.resumed = .waiting) (high : Bool) : (s.change p (s.rewrite b c)).loopEvent p (.first high) =
    s.change p (s.checkChange p (b.told (some high) b.firstAnswer) c) := by
  have booth : (s.change p (s.rewrite b c)).booth p = b := State.change_booth ..
  refine (if_pos (by rw [booth]; exact hwaits)).trans ?_
  rw [State.onBooth_eq, booth, State.change_setBooth]
  exact checkResume_eq ..

theorem answerEvent_first (hwaits : b.resumed = .waiting) (high : Bool) :
    (s.change p (s.rewrite b c)).answerEvent p (.first high) =
      s.change p (s.checkChange p (b.told b.firstLoop (some high)) c) := by
  have booth : (s.change p (s.rewrite b c)).booth p = b := State.change_booth ..
  refine (if_pos (by rw [booth]; exact hwaits)).trans ?_
  rw [State.onBooth_eq, booth, State.change_setBooth]
  exact checkResume_eq ..

theorem checkChange_of_missing (h : b.firstLoop = none ∨ b.firstAnswer = none) : s.checkChange p b c = s.rewrite b c := by
  unfold State.checkChange
  rcases h with h | h
  · rw [h]
  · rw [h]
    cases b.firstLoop with
    | none => rfl
    | some high => cases high <;> rfl

theorem checkChange_of_low (hz : b.firstLoop ≠ none) (hy : b.firstAnswer ≠ none)
    (h : ¬ (b.firstLoop = some true ∧ b.firstAnswer = some true)) : s.checkChange p b c = s.rewrite b.resumeRefused c := by
  unfold State.checkChange
  match hloop : b.firstLoop, hanswer : b.firstAnswer with
  | none, _ => exact absurd hloop hz
  | _, none => exact absurd hanswer hy
  | some true, some true => exact absurd ⟨hloop, hanswer⟩ h
  | some false, some _ => rfl
  | some true, some false => rfl

theorem checkChange_of_up (h : b.firstLoop = some true ∧ b.firstAnswer = some true) :
    s.checkChange p b c = s.foundChange p b c := by
  unfold State.checkChange
  rw [h.1, h.2]

/-- First values, of one line or of both, are told to the resume check that waits (R20). -/
theorem firsts_heard {y : RowInputs} (halone : s.SamplesAlone (y.driven &&& y.level) p)
    (hcharged : (s.booth p).mode = .charged) (hwaits : (s.booth p).resumed = .waiting)
    (hfirst : s.LoopFirst (y.driven &&& y.level) p ∨ s.AnswerFirst (y.driven &&& y.level) p)
    (hloop : s.loopCompletes (y.driven &&& y.level) p → (s.loop p).level ≠ some true)
    (hanswer : s.answerCompletes (y.driven &&& y.level) p → s.AnswerFirst (y.driven &&& y.level) p)
    (hfresh : s.AnswerFirst (y.driven &&& y.level) p → (s.booth p).firstAnswer = none)
    (hexec : exec (.senseSample y) s = .next t) :
    ∃ z a, FirstValues s (y.driven &&& y.level) p z a ∧
      HeardAs s p (s.checkChange p ((s.booth p).told z a) (s.slot p)) t := by
  obtain ⟨v, w, w', happens, -⟩ := exec_senseSample_alone halone
  obtain rfl := Host.Outcome.next.inj (hexec.symm.trans happens)
  have silent (hno : ¬ s.AnswerFirst (y.driven &&& y.level) p) : s.answerHeard (y.driven &&& y.level) p = none :=
    (Debounce.sample_of_not_completes fun h => hno (hanswer h)).1
  have second (h : s.AnswerFirst (y.driven &&& y.level) p) : s.answerHeard (y.driven &&& y.level) p =
      some (.first ((y.driven &&& y.level).getLsbD (oddRow p))) := Debounce.sample_first h.2 h.1
  have toldLoop (high : Bool) : (s.withScan v).loopEvent p (.first high) = (s.withScan v).change p
      (s.checkChange p ((s.booth p).told (some high) (s.booth p).firstAnswer) (s.slot p)) :=
    (congrArg (fun u : State => u.loopEvent p (.first high)) (State.change_self (s.withScan v) p)).trans
      (loopEvent_first (s := s.withScan v) hwaits high)
  have toldAnswer (b : Booth) (hb : b.resumed = .waiting) (hmode : b.mode = .charged)
      (hno : s.AnswerFirst (y.driven &&& y.level) p) :
      ((s.withScan w).change p (s.rewrite b (s.slot p))).deliver p (s.answerHeard (y.driven &&& y.level) p)
        (fun t e => t.answerEvent p e) = (s.withScan w).change p (s.checkChange p
          (b.told b.firstLoop (some ((y.driven &&& y.level).getLsbD (oddRow p)))) (s.slot p)) := by
    rw [second hno, deliver_charged (by rw [State.change_booth]; exact hmode)]
    exact answerEvent_first (s := s.withScan w) hb _
  by_cases hl : s.LoopFirst (y.driven &&& y.level) p
  · have first : s.loopHeard (y.driven &&& y.level) p = some (.first ((y.driven &&& y.level).getLsbD (evenRow p))) :=
      Debounce.sample_first hl.2 hl.1
    rw [first, deliver_charged (s := s.withScan v) hcharged, toldLoop]
    by_cases ha : s.AnswerFirst (y.driven &&& y.level) p
    · have waits : s.checkChange p ((s.booth p).told (some ((y.driven &&& y.level).getLsbD (evenRow p)))
          (s.booth p).firstAnswer) (s.slot p) = s.rewrite ((s.booth p).told
            (some ((y.driven &&& y.level).getLsbD (evenRow p))) (s.booth p).firstAnswer) (s.slot p) :=
        checkChange_of_missing (.inr (hfresh ha))
      rw [waits]
      refine ⟨some ((y.driven &&& y.level).getLsbD (evenRow p)), some ((y.driven &&& y.level).getLsbD (oddRow p)),
        ⟨fun _ => rfl, fun h => absurd hl h, fun _ => rfl, fun h => absurd ha h⟩, w', ?_⟩
      have both := toldAnswer ((s.booth p).told (some ((y.driven &&& y.level).getLsbD (evenRow p))) (s.booth p).firstAnswer)
        hwaits hcharged ha
      exact (congrArg (fun u : State => u.withScan w') both :)
    · rw [silent ha]
      exact ⟨some ((y.driven &&& y.level).getLsbD (evenRow p)), (s.booth p).firstAnswer,
        ⟨fun _ => rfl, fun h => absurd hl h, fun h => absurd h ha, fun _ => rfl⟩, w', rfl⟩
  · have ha := hfirst.resolve_left hl
    have still : s.LoopStill (y.driven &&& y.level) p := fun h => .inl (by
      have known : (s.loop p).level ≠ none := fun hnone => hl ⟨hnone, h⟩
      have low := hloop h
      match hlevel : (s.loop p).level with
      | none => exact absurd hlevel known
      | some true => exact absurd hlevel low
      | some false => rfl)
    rw [loop_still still hcharged]
    refine ⟨(s.booth p).firstLoop, some ((y.driven &&& y.level).getLsbD (oddRow p)),
      ⟨fun h => absurd h hl, fun _ => rfl, fun _ => rfl, fun h => absurd ha h⟩, w', ?_⟩
    have one := (congrArg (fun u : State => u.deliver p (s.answerHeard (y.driven &&& y.level) p)
      fun t e => t.answerEvent p e) (State.change_self (s.withScan w) p)).trans (toldAnswer (s.booth p) hwaits hcharged ha)
    exact (congrArg (fun u : State => u.withScan w') one :)

/-! ### The cases of a rise and of a call found up -/

theorem Booth.charged_of_fits {n : Nat} (h : b.owed + n ≤ 65535) (hold : Nat) :
    b.charged hold n = { b with owed := b.owed + n } := by
  rw [Booth.charged_of_not (fun full => Nat.not_lt.mpr h full.2), Nat.min_eq_right h]

theorem Booth.overflow_of_fits {n : Nat} (h : b.owed + n ≤ 65535) : b.overflow n = 0 := Nat.sub_eq_zero_of_le h

theorem Booth.overflowRecords_of_fits {n : Nat} (h : b.owed + n ≤ 65535) (p : Position) : b.overflowRecords p n = [] := by
  unfold Booth.overflowRecords
  rw [Booth.overflow_of_fits h, if_neg (Nat.lt_irrefl 0)]

theorem startCallChange_fits {e : TariffEntry} (he : s.lookup (b.band.getD s.settings.unknownBand) = some e)
    (hfits : b.owed + e.answerUnits ≤ 65535) : s.startCallChange p b c = { s.rewrite
      (({ b.called (b.band.getD s.settings.unknownBand) e with owed := b.owed + e.answerUnits } : Booth).evaluated c
        s.settings.graceTime) c with accrued := e.answerUnits } := by
  have fits : (b.called (b.band.getD s.settings.unknownBand) e).owed + e.answerUnits ≤ 65535 := hfits
  unfold State.startCallChange
  dsimp only
  rw [he]
  dsimp only
  rw [Booth.charged_of_fits fits, Booth.overflow_of_fits fits, Booth.overflowRecords_of_fits fits]
  rfl

theorem startCallChange_unset (h : s.lookup (b.band.getD s.settings.unknownBand) = none) :
    s.startCallChange p b c = { s.rewrite (b.calledUnset (b.band.getD s.settings.unknownBand) s.settings.clearDownHold) c with
      records := [.clearDown p .tariffUnset] } := by
  unfold State.startCallChange
  dsimp only
  rw [h]
  exact rfl

theorem answerChange_card (h : (s.booth p).state = .card) :
    s.answerChange p = s.startCallChange p (s.booth p) (s.slot p) := by
  unfold State.answerChange
  dsimp only
  rw [h]

theorem answerChange_vacant (h : (s.booth p).state = .vacant) : s.answerChange p = s.rewrite { s.booth p with
    state := .opened, callUp := true, bandAtAnswer := s.settings.unknownBand, callUnits := 0 } (s.slot p) := by
  unfold State.answerChange
  dsimp only
  rw [h]
  exact rfl

theorem answerChange_fault (h : (s.booth p).state = .fault) : s.answerChange p = { s.rewrite ((s.booth p).faultCalled
    ((s.booth p).band.getD s.settings.unknownBand) s.settings.clearDownHold) (s.slot p) with
      records := [.clearDown p .readerFault] } := by
  unfold State.answerChange
  dsimp only
  rw [h]
  exact rfl

theorem answerChange_other (hcard : (s.booth p).state ≠ .card) (hvacant : (s.booth p).state ≠ .vacant)
    (hfault : (s.booth p).state ≠ .fault) : s.answerChange p = s.rewrite (s.booth p) (s.slot p) := by
  unfold State.answerChange
  dsimp only
  match hstate : (s.booth p).state with
  | .card => exact absurd hstate hcard
  | .vacant => exact absurd hstate hvacant
  | .fault => exact absurd hstate hfault
  | .call | .grace | .clearing | .opened => rfl

theorem foundChange_fault (h : b.state = .fault) : s.foundChange p b c = { s.rewrite (b.resumeRefused.faultCalled
    (b.band.getD s.settings.unknownBand) s.settings.clearDownHold) c with records := [.clearDown p .readerFault] } :=
  if_pos h

theorem foundChange_resumed (hfault : b.state ≠ .fault) (hknown : b.present ≠ .unknown) :
    s.foundChange p b c = s.resumedChange p b c := (if_neg hfault).trans (if_neg hknown)

theorem resumedChange_set {e : TariffEntry} (he : s.lookup s.settings.unknownBand = some e) :
    s.resumedChange p b c = s.rewrite (if b.present = .yes then
        (b.resumedCall s.settings.unknownBand e.rate).evaluated c s.settings.graceTime
      else { b.resumedCall s.settings.unknownBand e.rate with state := .grace, grace := s.settings.graceTime * 10 }) c := by
  unfold State.resumedChange
  rw [he]
  exact rfl

theorem resumedChange_unset (h : s.lookup s.settings.unknownBand = none) : s.resumedChange p b c = { s.rewrite
    (b.resumedUnset s.settings.unknownBand s.settings.clearDownHold) c with records := [.clearDown p .tariffUnset] } := by
  unfold State.resumedChange
  rw [h]
  exact rfl

/-- A change with one record and no units. -/
theorem HeardAs.clears {r : Report} (h : HeardAs s p { s.rewrite b c with records := [r] } t) (hroom : s.reports.length < 32) :
    t.booth p = b ∧ t.ledger = s.ledger ∧ t.reports = s.reports ++ [r] :=
  ⟨h.booth, h.ledger, (h.reports hroom).2⟩

/-- A change of contexts with new units accrued places no record. -/
theorem HeardAs.accrues {n : Nat} (h : HeardAs s p { s.rewrite b c with accrued := n } t) :
    t.booth p = b ∧ t.ledger = { s.ledger with accrued := s.ledger.accrued + n } ∧ SameReports s t :=
  ⟨h.booth, h.ledger, by
    obtain ⟨w, rfl⟩ := h
    exact ⟨rfl, rfl⟩⟩

/-- Settles O52. -/
theorem lineRisesAndFirstValuesStartCalls : Obligations.LineRisesAndFirstValuesStartCalls := by
  intro s p x rows halone hcharged hroom b band hold cleared same quiet high loopStill loopFirst answerFirst
  obtain ⟨v, w, w', happens, -⟩ := exec_senseSample_alone halone
  refine ⟨_, happens, ?_, ?_, ?_⟩
  all_goals generalize State.withScan _ w' = t at happens ⊢
  · intro hstill hlow hcompletes
    have heard := rise_heard halone hcharged hstill hlow hcompletes happens
    have rises (hhigh : high) : HeardAs s p (s.answerChange p) t := by
      rwa [if_pos (loopThen_iff.mpr hhigh)] at heard
    have silent (hlow : ¬ high) : HeardAs s p (s.rewrite b (s.slot p)) t := by
      rwa [if_neg fun hthen => hlow (loopThen_iff.mp hthen)] at heard
    refine ⟨?_, fun hhigh hcard => ⟨fun e he => ?_, fun hunset => ?_⟩, fun hhigh hvacant => ?_,
      fun hhigh hfault => ?_, fun hhigh hcard hvacant hfault => ?_, fun hnot => (silent hnot).quiet⟩
    · by_cases hhigh : high
      · exact (rises hhigh).same (answerChange_settles s p)
      · exact (silent hhigh).same (rewrite_settles ..)
    · intro a hfits
      have called := rises hhigh
      rw [answerChange_card hcard, startCallChange_fits (b := b) he hfits] at called
      exact called.accrues
    · have called := rises hhigh
      rw [answerChange_card hcard, startCallChange_unset (b := b) hunset] at called
      exact called.clears hroom
    · have opened := rises hhigh
      rw [answerChange_vacant hvacant] at opened
      exact opened.quiet
    · have started := rises hhigh
      rw [answerChange_fault hfault] at started
      exact started.clears hroom
    · have kept := rises hhigh
      rw [answerChange_other hcard hvacant hfault] at kept
      exact kept.quiet
  · intro hstill hanswer
    have heard := still_heard halone hcharged hstill hanswer happens
    exact ⟨heard.same (rewrite_settles ..), heard.quiet⟩
  · intro hwaits hfirst hloop hanswer hfreshLoop hfresh
    obtain ⟨z, y, first, heard⟩ := firsts_heard halone hcharged hwaits hfirst hloop hanswer hfresh happens
    refine ⟨z, y, first.loop, first.loopKept, first.answer, first.answerKept, ?_⟩
    intro seen up started entry
    refine ⟨heard.same (checkChange_settles ..), fun hmissing => ?_, fun hz hy hup => ?_, fun hup hfault => ?_,
      fun hup hfault hunknown => ?_, fun hup hfault hknown => ⟨fun e he => ?_, fun hunset => ?_⟩⟩
    · rw [checkChange_of_missing hmissing] at heard
      exact heard.quiet
    · rw [checkChange_of_low hz hy hup] at heard
      exact heard.quiet
    all_goals rw [checkChange_of_up hup] at heard
    · rw [foundChange_fault (b := b.told z y) hfault] at heard
      exact heard.clears hroom
    · have waits : s.foundChange p (b.told z y) (s.slot p) = s.rewrite (b.told z y) (s.slot p) :=
        (if_neg hfault).trans (if_pos hunknown)
      rw [waits] at heard
      exact heard.quiet
    · rw [foundChange_resumed (b := b.told z y) hfault hknown, resumedChange_set he] at heard
      obtain ⟨booth, quiet⟩ := heard.quiet
      intro called
      refine ⟨quiet, fun hyes => booth.trans (if_pos hyes), fun hno => booth.trans (if_neg ?_)⟩
      rw [show (b.told z y).present = .no from hno]
      nofun
    · rw [foundChange_resumed (b := b.told z y) hfault hknown, resumedChange_unset hunset] at heard
      exact heard.clears hroom

end Sys2Proof.Machine

/-! ## Units that take W past 65,535 (R10, R15, R34, R36, R39, R40) -/

namespace Sys2Proof.Machine

variable {s t u : State} {p q : Position} {x : Change} {b : Booth} {c : Intercept}

/-- `n` units take the W of `b` past 65,535 (R40). -/
structure Booth.Saturates (b : Booth) (n : Nat) : Prop where
  full : 65535 < b.owed + n

/-- The booth goes to CLEARING when its W saturates (R15, R40). -/
def Booth.calls (b : Booth) : Prop := b.state = .call ∨ b.state = .grace

namespace Booth.Saturates

variable {n : Nat} (h : b.Saturates n)
include h

theorem charged_calls (hcalls : b.calls) (hold : Nat) : b.charged hold n =
    { b with owed := 65535, state := .clearing, grace := 0, timer := some (.assert hold) } := by
  unfold Booth.charged
  rw [if_pos ⟨hcalls, h.full⟩, Nat.min_eq_left (Nat.le_of_lt h.full)]

theorem charged_other (hcalls : ¬ b.calls) (hold : Nat) : b.charged hold n = { b with owed := 65535 } := by
  unfold Booth.charged
  rw [if_neg fun full => hcalls full.1, Nat.min_eq_left (Nat.le_of_lt h.full)]

theorem records (p : Position) :
    b.overflowRecords p n = .unitsDropped p (b.overflow n) .saturated :: b.saturationRecords p :=
  if_pos (Nat.sub_pos_of_lt h.full)

end Booth.Saturates

theorem Booth.saturationRecords_calls (h : b.calls) (p : Position) :
    b.saturationRecords p = [.clearDown p .saturated] := if_pos h

theorem Booth.saturationRecords_other (h : ¬ b.calls) (p : Position) : b.saturationRecords p = [] := if_neg h

theorem Booth.overflowRecords_length (b : Booth) (p : Position) (n : Nat) : (b.overflowRecords p n).length ≤ 2 := by
  unfold Booth.overflowRecords Booth.saturationRecords
  split
  · split
    · exact Nat.le_refl 2
    · exact Nat.le_succ 1
  · exact Nat.zero_le 2

/-! ### An addition anywhere (R40) -/

/-- The change by `n` units added to W at `p` (R40). -/
def State.chargeChange (s : State) (p : Position) (n : Nat) : Change := {
  booth := (s.booth p).charged s.settings.clearDownHold n
  slot := s.slot p
  entries := s.arrears
  records := (s.booth p).overflowRecords p n
  accrued := 0
  debited := 0
  dropped := (s.booth p).overflow n }

theorem charge_eq_change (s : State) (p : Position) (n : Nat) : s.charge p n = s.change p (s.chargeChange p n) := by
  have charged := congrArg (fun t : State => t.charge p n) (State.change_self s p)
  rw [State.change_charge, Change.charge_eq] at charged
  refine charged.trans (congrArg (s.change p) ?_)
  unfold State.rewrite State.chargeChange
  dsimp only
  rw [Nat.zero_add, List.nil_append]

theorem chargeChange_fits_queue (s : State) (p : Position) (n : Nat) (hroom : s.reports.length + 2 ≤ 32) :
    s.reports.length + (s.chargeChange p n).records.length ≤ 32 := by
  have two := (s.booth p).overflowRecords_length p n
  unfold State.chargeChange
  dsimp only
  omega

theorem chargeChange_records (s : State) (p : Position) (n : Nat) :
    (s.chargeChange p n).records = (s.booth p).overflowRecords p n := by
  rw [State.chargeChange]

theorem chargeChange_settles (s : State) (p : Position) (n : Nat) : (s.chargeChange p n).Settles s p where
  slot := rfl
  entries := rfl

theorem HeardAs.of_change (h : t = s.change p x) : HeardAs s p x t := ⟨s.scan, h⟩

/-! ### The accrual of a tick (R36, R40) -/

/-- Accrual that takes W past 65,535. -/
theorem accrual_saturates {held : Nat} (hr : (s.booth p).rate = some held) (howed : (s.booth p).owed ≤ 65535)
    (h : (s.booth p).Saturates (s.tickUnits p)) : s.tickAccrual p = { s.rewrite
      ((((s.booth p).counted (s.reselect p held)).charged s.settings.clearDownHold (s.tickUnits p)).evaluated (s.slot p)
        s.settings.graceTime) (s.slot p) with
      records := ((s.booth p).counted (s.reselect p held)).overflowRecords p (s.tickUnits p),
      accrued := s.tickUnits p, dropped := (s.booth p).overflow (s.tickUnits p) } := by
  have units := tickUnits_of_rated hr
  have some : (s.booth p).newUnits (s.reselect p held) ≠ 0 := fun hnone => by
    have full := h.full
    rw [units, hnone] at full
    exact Nat.not_lt.mpr howed full
  rw [tickAccrual_of_rated hr, units]
  refine (if_neg some).trans ?_
  unfold State.rewrite
  dsimp only
  rw [Nat.zero_add, Nat.zero_add, List.nil_append]
  rfl

theorem accrual_saturates_calls {held : Nat} (hr : (s.booth p).rate = some held) (howed : (s.booth p).owed ≤ 65535)
    (h : (s.booth p).Saturates (s.tickUnits p)) (hcalls : (s.booth p).calls) : (s.tickAccrual p).booth =
      { (s.booth p).counted (s.reselect p held) with
        owed := 65535, state := .clearing, grace := 0, timer := some (.assert s.settings.clearDownHold) } := by
  have counted : ((s.booth p).counted (s.reselect p held)).Saturates (s.tickUnits p) := ⟨h.full⟩
  have charged := counted.charged_calls hcalls s.settings.clearDownHold
  rw [accrual_saturates hr howed h, charged]
  exact Booth.evaluated_of_other (b := { (s.booth p).counted (s.reselect p held) with
    owed := 65535, state := .clearing, grace := 0, timer := some (.assert s.settings.clearDownHold) }) nofun nofun _

theorem accrual_saturates_other {held : Nat} (hr : (s.booth p).rate = some held) (howed : (s.booth p).owed ≤ 65535)
    (h : (s.booth p).Saturates (s.tickUnits p)) (hcalls : ¬ (s.booth p).calls) : (s.tickAccrual p).booth =
      { (s.booth p).counted (s.reselect p held) with owed := 65535 } := by
  have full := h.full
  rw [tickUnits_of_rated hr] at full
  rw [accrual_of_other hr howed (fun hcall => hcalls (.inl hcall)) (fun hgrace => hcalls (.inr hgrace)), Booth.accrued,
    Nat.min_eq_left (Nat.le_of_lt full)]

/-- A tick after whose accrual the booth is not in GRACE places the records of that accrual. -/
theorem ticked_records (h : ¬ ((s.booth p).state = .grace ∧ (s.tickAccrual p).booth.state = .grace)) :
    (s.ticked p).records = (s.tickAccrual p).records ∧ (s.ticked p).dropped = (s.tickAccrual p).dropped := by
  unfold State.ticked
  rw [countdown_of_other h]
  split <;> exact ⟨rfl, rfl⟩

/-- Where no other booth has a rate in use or a grace countdown, and no age step is due, a tick is quiet elsewhere. -/
theorem quietTick_of_unrated (h : ∀ q, q ≠ p → (s.booth q).rate = none ∧ (s.booth q).state ≠ .grace)
    (hwrap : (s.tickCount + 1) % 600 ≠ 0) : s.QuietTick p where
  others q hq := ⟨.inl (tickUnits_of_unrated (h q hq).1), fun hgrace => absurd hgrace (h q hq).2⟩
  entries hdue := absurd hdue hwrap

theorem Booth.called_overflow (b : Booth) (band : Band) (e : TariffEntry) (n : Nat) :
    (b.called band e).overflow n = b.overflow n := by
  unfold Booth.overflow Booth.called
  dsimp only

/-- The answer units of a charged call take W past 65,535 (R10, R34, R40). -/
theorem startCallChange_saturates {e : TariffEntry} (he : s.lookup (b.band.getD s.settings.unknownBand) = some e)
    (h : (b.called (b.band.getD s.settings.unknownBand) e).Saturates e.answerUnits) :
    s.startCallChange p b c = { s.rewrite { b.called (b.band.getD s.settings.unknownBand) e with
        owed := 65535, state := .clearing, grace := 0, timer := some (.assert s.settings.clearDownHold) } c with
      records := [.unitsDropped p (b.overflow e.answerUnits) .saturated, .clearDown p .saturated],
      accrued := e.answerUnits, dropped := b.overflow e.answerUnits } := by
  have calls : (b.called (b.band.getD s.settings.unknownBand) e).calls := .inl rfl
  have settled := Booth.evaluated_of_other (b := { b.called (b.band.getD s.settings.unknownBand) e with
    owed := 65535, state := .clearing, grace := 0, timer := some (.assert s.settings.clearDownHold) }) (c := c) nofun nofun
    s.settings.graceTime
  unfold State.startCallChange
  dsimp only
  rw [he]
  dsimp only
  rw [h.charged_calls calls, h.records, Booth.saturationRecords_calls calls, Booth.called_overflow, settled]
  rfl

/-- Settles O46. -/
theorem saturationDropsTheExcess : Obligations.SaturationDropsTheExcess := by
  intro s p n x hroom b rows band hold dropped cleared
  refine ⟨fun hfull => ?_, fun held hr hrun => ?_, fun halone hcharged hcard hloop hkept hlow hcompletes e he => ?_⟩
  · have saturates : b.Saturates n := ⟨hfull⟩
    intro excess t
    have heard := HeardAs.of_change (charge_eq_change s p n)
    obtain ⟨others, slots, -, arrears, -, -⟩ := heard.same (chargeChange_settles s p n)
    obtain ⟨lost, reports⟩ := heard.reports (chargeChange_fits_queue s p n hroom)
    have ledger := heard.ledger
    unfold State.chargeChange Booth.overflow at ledger
    rw [chargeChange_records, saturates.records] at reports
    refine ⟨others, slots, (localAt_charge s p n).rest, arrears, lost, ledger, fun hcalls => ⟨?_, ?_⟩, fun hcall hgrace => ?_⟩
    · exact heard.booth.trans (saturates.charged_calls hcalls _)
    · rw [reports, Booth.saturationRecords_calls hcalls]
      rfl
    · have quiet : ¬ b.calls := fun h => h.elim hcall hgrace
      refine ⟨heard.booth.trans (saturates.charged_other quiet _), ?_⟩
      rw [reports, Booth.saturationRecords_other quiet]
      rfl
  · intro rate sum excess charged calls howed hfull
    have units : s.tickUnits p = sum / 1024 := tickUnits_of_rated hr
    have saturates : b.Saturates (s.tickUnits p) := ⟨units ▸ hfull⟩
    obtain ⟨booth, -, -, -, -, -, -, -, accrued, debited⟩ := tick_leaves s
    have cleared_calls (hcalls : calls) : (s.tickAccrual p).booth = { charged with
        state := .clearing, grace := 0, timer := hold } := accrual_saturates_calls hr howed saturates hcalls
    have still : ¬ (b.state = .grace ∧ (s.tickAccrual p).booth.state = .grace) := fun ⟨hgrace, hstays⟩ => by
      rw [cleared_calls (.inr hgrace)] at hstays
      exact nomatch hstays
    refine ⟨s.tick, exec_chargeTick hrun, fun hcalls htimer => ?_, fun hcalls => ?_, fun hothers hwrap => ?_⟩
    · rw [booth p, ticked_booth, htimer, countdown_of_other still]
      exact cleared_calls hcalls
    · have hgrace : b.state ≠ .grace := fun h => hcalls (.inr h)
      have kept : (s.tickAccrual p).booth = charged := accrual_saturates_other hr howed saturates hcalls
      rw [booth p, ticked_of_other hgrace kept rfl rfl rfl]
    · obtain ⟨reports, dropped⟩ := tick_reports_alone (quietTick_of_unrated hothers hwrap)
      obtain ⟨records, drops⟩ := ticked_records still
      have counted : (b.counted (s.reselect p held)).Saturates (s.tickUnits p) := ⟨saturates.full⟩
      have accrual := accrual_saturates hr howed saturates
      rw [sum_alone positions_nodup (mem_positions p) fun q hq => tickUnits_of_unrated (hothers q hq).1, units] at accrued
      rw [drops, accrual, units] at dropped
      have placed : (s.ticked p).records = (b.counted (s.reselect p held)).overflowRecords p (s.tickUnits p) := by
        rw [records, accrual]
      have room := foldl_queued_of_room (s := s) (rs := (s.ticked p).records)
        (placed ▸ Nat.le_trans (Nat.add_le_add_left (Booth.overflowRecords_length ..) _) hroom)
      obtain ⟨reports, lost⟩ := Prod.mk.inj (reports.trans room)
      rw [placed, counted.records] at reports
      refine ⟨lost, Ledger.eq_of accrued debited dropped, reports.trans ?_⟩
      rw [units]
      by_cases hcalls : calls
      · rw [if_pos hcalls, Booth.saturationRecords_calls (b := b.counted (s.reselect p held)) hcalls]
        rfl
      · rw [if_neg hcalls, Booth.saturationRecords_other (b := b.counted (s.reselect p held)) hcalls]
        rfl
  · intro a excess hfull
    have called : (b.called band e).Saturates e.answerUnits := ⟨hfull⟩
    have still : s.LoopStill rows p := fun h => absurd h hkept
    obtain ⟨v, w, w', happens, -⟩ := exec_senseSample_alone halone
    refine ⟨_, happens, ?_⟩
    have heard := rise_heard halone hcharged still hlow hcompletes happens
    generalize State.withScan _ w' = t at happens heard ⊢
    rw [if_pos (loopThen_iff.mpr (.inl ⟨hloop, hkept⟩)), answerChange_card hcard,
      startCallChange_saturates (b := b) he called] at heard
    obtain ⟨others, slots, tables, arrears, port, sup⟩ := heard.same ⟨rfl, rfl⟩
    obtain ⟨lost, reports⟩ := heard.reports hroom
    exact ⟨others, slots, tables, arrears, port, sup, lost, heard.booth, heard.ledger, reports⟩

end Sys2Proof.Machine

/-! ## Line falls (R17, R19, R20, R134) -/

namespace Sys2Proof.Machine

variable {s t u : State} {p q : Position} {x : Change} {b : Booth} {c : Intercept} {v w : Scanner}

/-! ### A fall ends the call (R17, R19) -/

/-- The booth at the end of a call, before its units leave and its state follows (R17). -/
def Booth.callEnded (b : Booth) : Booth :=
  { b with fraction := 0, rate := none, callUp := false, grace := 0, timer := none, resumed := .no, band := none,
           lastSerial := none }

/-- The booth at the end of a call in FAULT (R19). -/
def Booth.faultCallEnded (b : Booth) : Booth :=
  { b with fraction := 0, rate := none, callUp := false, timer := none, owed := 0, lastSerial := none }

/-- The change by a fall that ends the call of `p`: the booth it leaves, and what departs with it (R17, R19). -/
def State.fallChange (s : State) (p : Position) (b : Booth) (d : Departure) : Change :=
  { s.rewrite b (s.slot p) with
    entries := d.entries, records := .callEnd p (s.booth p) :: d.records, dropped := d.dropped }

/-- Nothing departs (R17). -/
def State.noDeparture (s : State) : Departure := ⟨s.arrears, [], 0⟩

theorem lineFall_card (hup : (s.booth p).callUp = true) (hfault : (s.booth p).state ≠ .fault)
    (hpresent : (s.booth p).present = .yes) :
    s.lineFall p = s.change p (s.fallChange p { (s.booth p).callEnded with state := .card } s.noDeparture) := by
  have placed := (congrArg (fun t : State => t.place (.callEnd p (s.booth p))) (State.change_self s p)).trans
    (State.change_place _)
  unfold State.lineFall State.endCall
  dsimp only
  rw [if_pos hup, if_neg hfault, if_pos hpresent, placed, State.change_setBooth]
  rfl

/-- No booth holds the serial that these units are owed under. -/
def State.Unheld (s : State) (debt : Option Nat) (n : Nat) (pair : Option Pair) : Prop :=
  ∀ serial, debt = some serial → ¬ (n = 0 ∧ pair = none) → ∀ q, (s.booth q).holds serial = false

/-- Units that leave a booth at the end of its call, where no booth holds their serial (R9, R17, R70). -/
theorem callEnd_sendOut {b : Booth} {debt : Option Nat} {n : Nat} {pair : Option Pair} (h : s.Unheld debt n pair)
    (hholds : ∀ serial, (s.booth p).holds serial = false → b.holds serial = false) :
    ((s.place (.callEnd p (s.booth p))).setBooth p b).sendOut p debt n pair =
      s.change p (s.fallChange p b (departure s.arrears p debt n pair)) := by
  have placed := (congrArg (fun t : State => (t.place (.callEnd p (s.booth p))).setBooth p b) (State.change_self s p)).trans
    (congrArg (fun t : State => t.setBooth p b) (State.change_place _))
  rw [State.change_setBooth] at placed
  refine (congrArg (fun t : State => t.sendOut p debt n pair) placed).trans ((State.change_sendOut debt n pair
    fun serial hserial howed q => ?_).trans ?_)
  · by_cases hq : q = p
    · rw [hq, State.change_booth]
      exact hholds serial (h serial hserial howed p)
    · rw [(localAt_change ..).booths q hq]
      exact h serial hserial howed q
  · unfold State.fallChange State.rewrite
    dsimp only
    rw [Nat.zero_add]
    rfl

theorem lineFall_vacates (hup : (s.booth p).callUp = true) (hfault : (s.booth p).state ≠ .fault)
    (hpresent : (s.booth p).present ≠ .yes)
    (h : s.Unheld (s.booth p).lastSerial (s.booth p).owed (s.booth p).pendingRes) :
    s.lineFall p = s.change p (s.fallChange p
      ({ (s.booth p).callEnded with owed := 0, pendingRes := none } : Booth).enterVacant
      (departure s.arrears p (s.booth p).lastSerial (s.booth p).owed (s.booth p).pendingRes)) := by
  have out := callEnd_sendOut (b := { (s.booth p).callEnded with owed := 0, pendingRes := none }) h fun serial h => h
  unfold State.lineFall State.endCall
  dsimp only
  rw [if_pos hup, if_neg hfault, if_neg hpresent]
  refine (congrArg (fun t : State => t.onBooth p Booth.enterVacant) out).trans ?_
  rw [State.onBooth_eq, State.change_booth, State.change_setBooth]
  rfl

theorem lineFall_fault (hup : (s.booth p).callUp = true) (hfault : (s.booth p).state = .fault)
    (h : s.Unheld (s.booth p).lastSerial (s.booth p).owed none) :
    s.lineFall p = s.change p (s.fallChange p (s.booth p).faultCallEnded
      (departure s.arrears p (s.booth p).lastSerial (s.booth p).owed none)) := by
  unfold State.lineFall
  rw [if_pos hup, if_pos hfault]
  exact callEnd_sendOut h fun serial h => h

/-- A fall with no call up ends a resume check that waits (R20). -/
theorem lineFall_idle (hup : (s.booth p).callUp = false) :
    s.lineFall p = s.change p (s.rewrite (s.booth p).resumeRefused (s.slot p)) := by
  unfold State.lineFall
  rw [hup, if_neg Bool.false_ne_true]
  split
  · exact State.setBooth_eq_change ..
  next hwaits =>
    have refused : (s.booth p).resumeRefused = s.booth p := by
      have no : (s.booth p).resumed = .no := by
        match hr : (s.booth p).resumed with
        | .no => rfl
        | .waiting => exact absurd hr hwaits
      unfold Booth.resumeRefused
      rw [← no]
    rw [refused]
    exact State.change_self s p

/-! ### What follows a fall (R133, R134) -/

/-- Once the call has ended and no resume check waits, LOOP not being high, no ANSWER event acts. -/
theorem deliver_ended {e : Option LineEvent} (hup : (s.booth p).callUp = false) (hno : (s.booth p).resumed = .no)
    (hlow : s.loopHigh p = false) : s.deliver p e (fun t e => t.answerEvent p e) = s := by
  have idle : (s.booth p).resumed ≠ .waiting := by rw [hno]; nofun
  cases e with
  | none => rfl
  | some e =>
    refine ite_eq_left_iff.mpr fun _ => ?_
    cases e with
    | first high => exact if_neg idle
    | rise => exact if_neg (by rw [hlow]; nofun)
    | fall =>
      show s.lineFall p = s
      unfold State.lineFall
      rw [hup, if_neg Bool.false_ne_true, if_neg idle]

theorem Debounce.sample_falls {y : Debounce} {d : Nat} {level : Bool} (h : y.completes d level) (hhigh : y.level = some true) :
    (y.sample d level).2 = some .fall ∧ (y.sample d level).1.level = some false := by
  have low : level = false := by
    cases level with
    | true => exact absurd hhigh h.1
    | false => rfl
  rw [(Debounce.sample_of_completes h).1, (Debounce.sample_of_completes h).2, hhigh, low]
  exact ⟨rfl, rfl⟩

/-- A fall of LOOP, of ANSWER or of both acts as one (R17, R20, R134). -/
theorem fall_heard {y : RowInputs} (halone : s.SamplesAlone (y.driven &&& y.level) p)
    (hcharged : (s.booth p).mode = .charged)
    (hfall : (s.loop p).level = some true ∧ s.loopCompletes (y.driven &&& y.level) p ∨
      (s.answerLine p).level = some true ∧ s.answerCompletes (y.driven &&& y.level) p)
    (hfirst : s.loopCompletes (y.driven &&& y.level) p → (s.loop p).level = none → (s.booth p).resumed = .no)
    (hexec : exec (.senseSample y) s = .next t) (hx : ∀ v, (s.withScan v).lineFall p = (s.withScan v).change p x)
    (hup : x.booth.callUp = false) (hno : x.booth.resumed = .no) : HeardAs s p x t := by
  obtain ⟨v, w, w', happens, high⟩ := exec_senseSample_alone halone
  obtain rfl := Host.Outcome.next.inj (hexec.symm.trans happens)
  by_cases hloop : (s.loop p).level = some true ∧ s.loopCompletes (y.driven &&& y.level) p
  · obtain ⟨falls, low⟩ := Debounce.sample_falls hloop.2 hloop.1
    have falls : s.loopHeard (y.driven &&& y.level) p = some .fall := falls
    have acts : ((s.withScan v).loopEvent p .fall).withScan w = (s.withScan w).change p x :=
      (congrArg (fun u : State => u.withScan w) (hx v) :)
    have booth : ((s.withScan w).change p x).booth p = x.booth := State.change_booth ..
    have silent : ((s.withScan w).change p x).loopHigh p = false :=
      decide_eq_false (by rw [show (((s.withScan w).change p x).loop p).level = some false from high.trans low]; nofun)
    rw [falls, deliver_charged (s := s.withScan v) hcharged, acts, deliver_ended (by rw [booth]; exact hup)
      (by rw [booth]; exact hno) silent]
    exact ⟨w', rfl⟩
  · have answer := hfall.resolve_left hloop
    have falls : s.answerHeard (y.driven &&& y.level) p = some .fall := (Debounce.sample_falls answer.2 answer.1).1
    have still : s.LoopStill (y.driven &&& y.level) p := fun h => by
      match hlevel : (s.loop p).level with
      | none => exact .inr ⟨rfl, hfirst h hlevel⟩
      | some true => exact absurd ⟨hlevel, h⟩ hloop
      | some false => exact .inl rfl
    rw [loop_still still hcharged, falls, deliver_charged (s := (s.withScan v).withScan w) hcharged]
    exact ⟨w', (congrArg (fun u : State => u.withScan w') (hx w) :)⟩

/-! ### No line event touches an interception context (R64) -/

theorem slots_change (hx : x.slot = s.slot p) : (s.change p x).slots = s.slots :=
  slots_of_slot fun q => by
    by_cases hq : q = p
    · rw [hq, State.change_slot, hx]
    · exact (localAt_change s p x).slots q hq

theorem slots_checkResume (s : State) (p : Position) : (s.checkResume p).slots = s.slots := by
  have checked := (congrArg (fun t : State => t.checkResume p) (State.change_self s p)).trans
    (checkResume_eq s p (s.booth p) (s.slot p))
  rw [checked]
  exact slots_change (checkChange_settles ..).slot

theorem slots_answerRise (s : State) (p : Position) : (s.answerRise p).slots = s.slots := by
  rw [answerRise_eq]
  exact slots_change (answerChange_settles s p).slot

theorem slots_lineFall (s : State) (p : Position) : (s.lineFall p).slots = s.slots := by
  have placed (b : Booth) (r : Report) : ((s.place r).setBooth p b).slots = s.slots := State.place_slots ..
  unfold State.lineFall
  split
  · split
    · exact (slots_sendOut ..).trans (placed ..)
    · unfold State.endCall
      dsimp only
      split
      · exact placed ..
      · exact (slots_sendOut ..).trans (placed ..)
  · split <;> rfl

theorem slots_loopEvent (s : State) (p : Position) (e : LineEvent) : (s.loopEvent p e).slots = s.slots := by
  cases e with
  | first high =>
    unfold State.loopEvent
    dsimp only
    split
    · exact slots_checkResume ..
    · rfl
  | rise => rfl
  | fall => exact slots_lineFall s p

theorem slots_answerEvent (s : State) (p : Position) (e : LineEvent) : (s.answerEvent p e).slots = s.slots := by
  cases e with
  | first high =>
    unfold State.answerEvent
    dsimp only
    split
    · exact slots_checkResume ..
    · rfl
  | rise =>
    unfold State.answerEvent
    dsimp only
    split
    · exact slots_answerRise ..
    · rfl
  | fall => exact slots_lineFall s p

theorem slots_deliver {act : State → LineEvent → State} (h : ∀ s e, (act s e).slots = s.slots) (s : State) (p : Position)
    (e : Option LineEvent) : (s.deliver p e act).slots = s.slots := by
  unfold State.deliver
  split
  · rfl
  · split
    · rfl
    · exact h ..

/-- What a fall with `b'` left behind and `d` departing makes of the state. -/
structure FallLeaves (s : State) (p : Position) (b' : Booth) (d : Departure) (t : State) : Prop where
  others : OtherBooths p s t
  booth : t.booth p = b'
  arrears : t.arrears = d.entries
  ledger : t.ledger = { s.ledger with dropped := s.ledger.dropped + d.dropped }
  reports : s.reports.length + (1 + d.records.length) ≤ 32 →
    t.lost = s.lost ∧ t.reports = s.reports ++ .callEnd p (s.booth p) :: d.records

theorem fallLeaves {d : Departure} {b' : Booth} (h : HeardAs s p (s.fallChange p b' d) t) : FallLeaves s p b' d t := by
  refine ⟨?_, h.booth, ?_, h.ledger, fun hroom => h.reports ?_⟩
  · obtain ⟨w, rfl⟩ := h
    exact (localAt_change s p _).booths
  · obtain ⟨w, rfl⟩ := h
    rfl
  · rw [Nat.add_comm 1] at hroom
    exact hroom

/-- The booth that the end of a call leaves with no card present (R4, R17). -/
theorem Booth.vacated_eq (b : Booth) : ({ b.callEnded with owed := 0, pendingRes := none } : Booth).enterVacant = { b with
    state := .vacant, fraction := 0, rate := none, callUp := false, grace := 0, timer := none, resumed := .no,
    band := none, lastSerial := none, owed := 0, pendingRes := none, pendingMode := none,
    mode := b.pendingMode.getD b.mode } := by
  rw [Booth.enterVacant_eq]
  unfold Booth.callEnded
  dsimp only
  rw [ite_self]

/-- Where the units that leave at a fall go, and what is told of it (R9, R70, R73 to R76). -/
theorem fallLeaves_cases {b' : Booth} {debt : Option Nat} {n : Nat} {pair : Option Pair}
    (hroom : s.reports.length + 2 ≤ 32)
    (leaves : s.Unheld debt n pair → FallLeaves s p b' (departure s.arrears p debt n pair) t) :
    (n = 0 → pair = none → OtherBooths p s t ∧ t.booth p = b' ∧ t.arrears = s.arrears ∧ t.ledger = s.ledger ∧
      t.lost = s.lost ∧ t.reports = s.reports ++ [.callEnd p (s.booth p)]) ∧
    (∀ m, ¬ (n = 0 ∧ pair = none) → debt = some m → (∀ q, (s.booth q).holds m = false) →
      OtherBooths p s t ∧ t.booth p = b' ∧ t.arrears = (openEntry s.arrears p m n pair).entries ∧
      ((∀ e ∈ s.arrears, e.serial ≠ m) → s.arrears.length < 32 → t.ledger = s.ledger ∧ t.lost = s.lost ∧
        t.reports = s.reports ++ [.callEnd p (s.booth p), .opened p m n pair])) ∧
    (¬ (n = 0 ∧ pair = none) → debt = none → n + pairK pair ≤ 65535 →
      OtherBooths p s t ∧ t.booth p = b' ∧ t.arrears = s.arrears ∧ t.lost = s.lost ∧
      t.ledger = { s.ledger with dropped := s.ledger.dropped + (n + pairK pair) } ∧
      t.reports = s.reports ++ [.callEnd p (s.booth p), .unitsDropped p (n + pairK pair) .noSerial]) := by
  obtain ⟨nothing, serial, noSerial⟩ := departure_cases s.arrears p debt n pair
  refine ⟨fun hn hpair => ?_, fun m howes hdebt hfree => ?_, fun howes hdebt hmax => ?_⟩
  · have left := leaves fun _ _ howes => absurd ⟨hn, hpair⟩ howes
    rw [nothing hn hpair] at left
    obtain ⟨lost, reports⟩ := left.reports (Nat.le_of_succ_le hroom)
    exact ⟨left.others, left.booth, left.arrears, left.ledger, lost, reports⟩
  · obtain ⟨entries, new⟩ := serial m hdebt howes
    have left := leaves fun m' hm' _ => Option.some.inj (hdebt.symm.trans hm') ▸ hfree
    refine ⟨left.others, left.booth, left.arrears.trans entries, fun hnew hlen => ?_⟩
    rw [new hnew hlen] at left
    obtain ⟨lost, reports⟩ := left.reports hroom
    exact ⟨left.ledger, lost, reports⟩
  · have left := leaves fun _ hserial => nomatch hdebt.symm.trans hserial
    have one : noSerialRecords p (n + pairK pair) = [.unitsDropped p (n + pairK pair) .noSerial] := if_pos hmax
    rw [noSerial hdebt howes, one] at left
    obtain ⟨lost, reports⟩ := left.reports hroom
    exact ⟨left.others, left.booth, left.arrears, lost, left.ledger, reports⟩

/-- Settles O53. -/
theorem loopFallEndsTheCall : Obligations.LoopFallEndsTheCall := by
  intro s p x rows halone hcharged loopFall answerFall b hfall hfirst hroom ended
  have alike : ∃ t, exec (.senseSample x) s = .next t ∧ t.slots = s.slots ∧ SameTables s t ∧ t.port = s.port := by
    obtain ⟨v, w, w', happens, -⟩ := exec_senseSample_alone halone
    refine ⟨_, happens, ?_⟩
    have sampled := senseSample_of_unsampled halone.running halone.sense halone.unsampled x
    have same := Host.Outcome.next.inj (sampled.symm.trans happens)
    obtain ⟨tables, -, port⟩ := sampleColumn_rest s x
    rw [same] at tables port
    refine ⟨(slots_deliver (fun t e => slots_answerEvent t p e) ..).trans
      (slots_deliver (fun t e => slots_loopEvent t p e) ..), tables, port⟩
  obtain ⟨t, happens, slots, tables, port⟩ := alike
  have heard {y : Change} (hx : ∀ v, (s.withScan v).lineFall p = (s.withScan v).change p y)
      (hup : y.booth.callUp = false) (hno : y.booth.resumed = .no) : HeardAs s p y t :=
    fall_heard halone hcharged hfall hfirst happens hx hup hno
  refine ⟨t, happens, slots, tables, port, fun hup hfault hpresent => ?_, fun hup hfault hpresent => ?_,
    fun hup hfault hno => ?_, fun hup => ?_⟩
  · have left := fallLeaves (heard (y := s.fallChange p { b.callEnded with state := .card } s.noDeparture)
      (fun v => lineFall_card (s := s.withScan v) hup hfault hpresent) rfl rfl)
    obtain ⟨lost, reports⟩ := left.reports (Nat.le_of_succ_le hroom)
    exact ⟨left.others, left.arrears, left.ledger, lost, reports, left.booth⟩
  · intro vacated nothing
    have leaves (h : s.Unheld b.lastSerial b.owed b.pendingRes) : FallLeaves s p vacated
        (departure s.arrears p b.lastSerial b.owed b.pendingRes) t := by
      have vacant := Booth.vacated_eq b
      refine fallLeaves (heard (fun v => (lineFall_vacates (s := s.withScan v) hup hfault hpresent h).trans ?_) rfl rfl)
      exact congrArg (fun b' : Booth => (s.withScan v).change p (s.fallChange p b'
        (departure s.arrears p b.lastSerial b.owed b.pendingRes))) vacant
    obtain ⟨free, serial, noSerial⟩ := fallLeaves_cases hroom leaves
    exact ⟨fun hnothing => free hnothing.1 hnothing.2, serial, noSerial⟩
  · intro left
    have leaves (h : s.Unheld b.lastSerial b.owed none) : FallLeaves s p left
        (departure s.arrears p b.lastSerial b.owed none) t :=
      fallLeaves (heard (y := s.fallChange p b.faultCallEnded (departure s.arrears p b.lastSerial b.owed none))
        (fun v => lineFall_fault (s := s.withScan v) hup hfault h) rfl hno)
    obtain ⟨free, serial, noSerial⟩ := fallLeaves_cases hroom leaves
    exact ⟨fun howed => free howed rfl, fun n howed => serial n (owes_of (.inl howed)),
      fun howed hmax hdebt => noSerial (owes_of (.inl howed)) hdebt hmax⟩
  · have idle := heard (y := s.rewrite b.resumeRefused (s.slot p)) (fun v => lineFall_idle (s := s.withScan v) hup) hup rfl
    obtain ⟨others, -, -, arrears, -, -⟩ := idle.same (rewrite_settles ..)
    obtain ⟨booth, ledger, reports⟩ := idle.quiet
    exact ⟨others, booth, arrears, ledger, reports⟩

end Sys2Proof.Machine
